-- ==== Sys2Proof/Word.lean ====
section
/-! DEFINITION. The numbers of the OVS-8 that the manual gives a width: the fields of its frames and of its image (R181 to R184),
the counts that wrap at a width (R32, R39, R41, R43, R102, R125) and the sets it codes as words (R181). -/

namespace Sys2Proof

/-- One byte of a frame or of the configuration image. -/
abbrev Byte := BitVec 8

/-- A station address as the header's five bits hold it (R182): 1 to 30 are stations, 31 addresses all stations. -/
abbrev Addr := BitVec 5

/-- A channel number, 0 to 7 (R64). -/
abbrev Channel := BitVec 3

/-- A 16-bit count or number: sweep numbers, sequence numbers, trigger and cadence counts, signatures, counters. -/
abbrev Count := BitVec 16

/-- The tag that pairs a MEASURE or QUERY with its answer, 0 to 255. -/
abbrev Tag := BitVec 8

/-- A converted count, 0 to 4095 (R1). -/
abbrev Value := BitVec 12

/-- The station time in milliseconds, 0 to 4,294,967,295 (R32). -/
abbrev Time := BitVec 32

/-- A set of channels, coded as R181 codes it: bit c stands for channel c. -/
abbrev ChannelSet := BitVec 8

/-- A set of stations, coded as R181 codes it: bit s stands for station s. -/
abbrev StationSet := BitVec 32

/-- A set of watch indices, coded as R183 codes it: bit w stands for watch w. -/
abbrev WatchSet := BitVec 16

/-- A timer (R33): not running, or the number of advances of the station time still to come before it expires.
A timer that holds 0 is due: its expiry is the next event it can have. -/
abbrev Timer := Option Nat

/-- A map from small numbers to records, kept with strictly rising keys (`Map.wf`). -/
abbrev Map (α : Type) := List (Nat × α)

/-- The destination that addresses all stations (R182). -/
def allStations : Addr := 31

end Sys2Proof
end

