-- ==== Sys2Proof/Syntax.lean ====
section
/-! DEFINITION. The frames of the bus, and the commands the station takes: one constructor of `Instr` for each row of spec/opcode_table.json, with the
operands that the event carries. A received frame carries its source, its destination and the fields of its payload (R182, R183);
its check value has matched and its length is one the kind allows, except for RX_BAD_FRAME, which carries the bytes as they came. -/

namespace Sys2Proof

/-- The level of a two-level line (R36). -/
inductive Level where
  | low
  | high
  deriving DecidableEq, Repr

/-- A key (R64): a station address and a channel. -/
structure Key where
  station : Addr
  channel : Channel
  deriving DecidableEq, Repr

/-- The quality flags of a value (R2). -/
structure Quality where
  clippedLow  : Bool
  clippedHigh : Bool
  averaged    : Bool
  deriving DecidableEq, Repr

/-- The cause of a job, a RESULT or an update (R4, R23, R181). The requester is the byte the frame carries. -/
inductive Cause where
  | sweep (number : Count)
  | measure (requester : Byte) (tag : Tag)
  | trigger (count : Count)
  | cadence (count : Count)
  deriving DecidableEq, Repr

/-- One item of a RESULT or of a progress list (R4, R23). -/
structure Item where
  channel : Channel
  value   : Value
  flags   : Quality
  deriving DecidableEq, Repr

/-- The zone of a watch (R83, R181). -/
inductive Zone where
  | unknown
  | below
  | inside
  | above
  deriving DecidableEq, Repr

/-- The contents of a PRESENCE (R143, R183). The period is the two-bit code of the layout. -/
structure Presence where
  active        : Bool
  participation : Bool
  period        : BitVec 2
  signature     : Count
  lastSweep     : Option Count
  alerts        : Byte
  deriving DecidableEq, Repr

/-- The contents of an ALERT (R106, R183). The value is the signed word of the layout, 8000h when absent. -/
structure Alert where
  watch      : BitVec 4
  group      : Option (BitVec 3)
  cleared    : Bool
  threshold  : Bool
  sourceLost : Bool
  level      : BitVec 2
  zone       : Zone
  sequence   : Count
  value      : BitVec 16
  deriving DecidableEq, Repr

/-- What a REFUSE refuses (R183). -/
inductive RefusedKind where
  | measure
  | query
  deriving DecidableEq, Repr

/-- The argument of a QUERY as its payload carries it: no byte, one byte or two bytes (R183). -/
inductive QueryArg where
  | absent
  | one (a : Byte)
  | two (a b : Byte)
  deriving DecidableEq, Repr

/-- What a frame says, by its kind (R183). The content of a REPLY is kept as the bytes of Table 12-3. -/
inductive Body where
  | presence (p : Presence)
  | sweep (number : Count)
  | measure (tag : Tag) (samples : Byte) (channels : List Byte)
  | result (cause : Cause) (items : List Item)
  | refuse (kind : RefusedKind) (reason : BitVec 3) (tag : Tag)
  | alert (a : Alert)
  | ack (sequence : Count)
  | query (kind : BitVec 3) (tag : Tag) (arg : QueryArg)
  | reply (tag : Tag) (kind : BitVec 3) (notHeld : Bool) (content : List Byte)
  deriving DecidableEq, Repr

/-- A frame: source, destination, and what it says (R182). -/
structure Frame where
  src  : Addr
  dst  : Addr
  body : Body
  deriving DecidableEq, Repr

/-- The commands, one for each row of spec/opcode_table.json. -/
inductive Instr where
  /-- POWER_ON_RESET (R164). -/
  | powerOnReset
  /-- LINE_RESET (R164): RSTN is driven low. -/
  | lineReset
  /-- RSTN_HIGH (R166): RSTN is high again. -/
  | rstnHigh
  /-- CONFIG_BYTE_GIVEN (R166): the configuration memory gives the requested byte. -/
  | configByteGiven (b : Byte)
  /-- CONFIG_BYTE_UNGIVEN (R166): the configuration memory leaves the requested byte ungiven. -/
  | configByteUngiven
  /-- TIME_BASE_ADVANCE (R32): one millisecond of the time base. -/
  | timeBaseAdvance
  /-- TRG_CHANGE (R38): the TRG line takes this level. -/
  | trgChange (level : Level)
  /-- DEBOUNCE_EXPIRY (R38). -/
  | debounceExpiry
  /-- CADENCE_TICK (R41). -/
  | cadenceTick
  /-- CHANNEL_COMPLETION (R17): the counts sampled on the channel, in order. A job of one sample takes the first alone. -/
  | channelCompletion (s0 s1 s2 s3 : Value)
  /-- FRESHNESS_EXPIRY (R72), of the entry with this key. -/
  | freshnessExpiry (k : Key)
  /-- ALERT_REPEAT_EXPIRY (R109). -/
  | alertRepeatExpiry
  /-- CALL_TIMER_EXPIRY (R52). -/
  | callTimerExpiry
  /-- SWEEP_DEADLINE_EXPIRY (R58). -/
  | sweepDeadlineExpiry
  /-- REPLY_TIMER_EXPIRY (R131), of the pending entry with this tag. -/
  | replyTimerExpiry (tag : Tag)
  /-- BACK_OFF_EXPIRY (R130), of the pending entry with this tag. -/
  | backOffExpiry (tag : Tag)
  /-- HOLD_OFF_EXPIRY (R123), of this key's hold-off. -/
  | holdOffExpiry (k : Key)
  /-- PRESENCE_TIMER_EXPIRY (R142). -/
  | presenceTimerExpiry
  /-- SILENT_TIMER_EXPIRY (R141), of this peer's slot. -/
  | silentTimerExpiry (a : Addr)
  /-- LOST_TIMER_EXPIRY (R141), of this peer's slot. -/
  | lostTimerExpiry (a : Addr)
  /-- JOIN_WAIT_EXPIRY (R169). -/
  | joinWaitExpiry
  /-- RELEASE_TIMER_EXPIRY (R171). -/
  | releaseTimerExpiry
  /-- CONFLICT_CLEARING_EXPIRY (R173). -/
  | conflictClearingExpiry
  /-- TX_FRAME_START (R150): the line has been idle for 12 bit times. -/
  | txFrameStart
  /-- SEND_COMPLETION (R152), of the station's frame on the line. -/
  | sendCompletion
  /-- ARBITRATION_LOSS (R148), of the station's frame on the line. -/
  | arbitrationLoss
  /-- TRANSMIT_ERROR (R153), of the station's frame on the line. -/
  | transmitError
  /-- KEY_FIELD_CONFLICT (R155), of the station's frame on the line. -/
  | keyFieldConflict
  /-- FLUSHED_FRAME_END (R161). -/
  | flushedFrameEnd
  /-- RX_BAD_FRAME (R158): the bytes of a frame that may fail any check. -/
  | rxBadFrame (bytes : List Byte)
  /-- RX_PRESENCE (R140). -/
  | rxPresence (src dst : Addr) (p : Presence)
  /-- RX_SWEEP (R46). -/
  | rxSweep (src dst : Addr) (number : Count)
  /-- RX_MEASURE (R9). -/
  | rxMeasure (src dst : Addr) (tag : Tag) (samples : Byte) (channels : List Byte)
  /-- RX_RESULT (R159). -/
  | rxResult (src dst : Addr) (cause : Cause) (items : List Item)
  /-- RX_REFUSE (R129), with the three-bit reason code of the layout. -/
  | rxRefuse (src dst : Addr) (kind : RefusedKind) (reason : BitVec 3) (tag : Tag)
  /-- RX_ALERT (R115). -/
  | rxAlert (src dst : Addr) (a : Alert)
  /-- RX_ACK (R111). -/
  | rxAck (src dst : Addr) (sequence : Count)
  /-- RX_REPLY (R159), with the content that follows the tag and the kind byte. -/
  | rxReply (src dst : Addr) (tag : Tag) (kind : BitVec 3) (notHeld : Bool) (content : List Byte)
  /-- QUERY_STATUS (R179). -/
  | queryStatus (src dst : Addr) (tag : Tag) (arg : QueryArg)
  /-- QUERY_VALUE (R80). -/
  | queryValue (src dst : Addr) (tag : Tag) (arg : QueryArg)
  /-- QUERY_ALERTS (R121). -/
  | queryAlerts (src dst : Addr) (tag : Tag) (arg : QueryArg)
  /-- QUERY_WATCH (R100). -/
  | queryWatch (src dst : Addr) (tag : Tag) (arg : QueryArg)
  /-- QUERY_TALLY (R62). -/
  | queryTally (src dst : Addr) (tag : Tag) (arg : QueryArg)
  /-- QUERY_GROUP (R178). -/
  | queryGroup (src dst : Addr) (tag : Tag) (arg : QueryArg)
  /-- QUERY_ROSTER (R147). -/
  | queryRoster (src dst : Addr) (tag : Tag) (arg : QueryArg)
  /-- QUERY_UNKNOWN_KIND (R182): kind code 7. -/
  | queryUnknownKind (src dst : Addr) (tag : Tag) (arg : QueryArg)
  deriving DecidableEq, Repr

end Sys2Proof
end

