-- ==== Sys2Proof/Decode.lean ====
section
/-! DEFINITION. The command that a word of spec/opcode_table.json spells. The table gives none of its 46 rows any bits
("fields": [] and no fixed bits), so no word spells a command. The bytes of frames and of the image are decoded in
Machine/Formats.lean and Machine/Image.lean. -/

namespace Sys2Proof

/-- The command that the first nbits bits of w spell: none, since the table gives no row any bits. -/
def decodeTableWord (_nbits _w : Nat) : Option Instr := none

end Sys2Proof
end

