-- ==== Sys2Proof/Config.lean ====
section
/-! DEFINITION. What the manual leaves to the part: the order in which blocks act inside one step, where the rules say that either
may be first, or do not order them (R48, R123, R126, R140, R141, R159, R169, R170, R180). -/

namespace Sys2Proof

/-- The order taken at the n-th open choice, as an index into the orders that the rules allow there. It has no body: no proof can
see it, so a claim holds whichever order the part takes (log entries 6, 7, 8, 9, 10, 20, 27, 28 and 29). DESIGN CHOICE, safe: the
model allows every order, but for the two cases that log entries 10 and 27 name as not covered. -/
opaque Config.orderChoice (n : Nat) : Nat

end Sys2Proof
end

