-- ==== Sys2Proof/Machine/Maps.lean ====
section
/-! DEFINITION. Maps with strictly rising keys: look up, set, erase. One map holds one set of keys and records in exactly one way,
so equal maps are equal lists (`Map.wf` and Sys2Proof/Laws/Maps.lean). -/

namespace Sys2Proof

/-- What the map holds at a key. -/
def Map.find {α : Type} : Map α → Nat → Option α
  | [], _ => none
  | (j, v) :: m, k => if j = k then some v else Map.find m k

/-- The map with a record put at a key, in place of what it held there. -/
def Map.set {α : Type} : Map α → Nat → α → Map α
  | [], k, v => [(k, v)]
  | (j, w) :: m, k, v =>
    if k < j then (k, v) :: (j, w) :: m
    else if k = j then (k, v) :: m
    else (j, w) :: Map.set m k v

/-- The map with nothing at a key. -/
def Map.erase {α : Type} (m : Map α) (k : Nat) : Map α := m.filter (fun p => p.1 != k)

/-- The map with the record at a key changed, where there is one. -/
def Map.adjust {α : Type} (m : Map α) (k : Nat) (f : α → α) : Map α :=
  m.map (fun p => if p.1 = k then (p.1, f p.2) else p)

/-- The map with every record changed. -/
def Map.mapRecords {α : Type} (f : Nat → α → α) (m : Map α) : Map α := m.map (fun p => (p.1, f p.1 p.2))

/-- The map of the records whose key passes a test. -/
def Map.keep {α : Type} (p : Nat → Bool) (m : Map α) : Map α := m.filter (fun q => p q.1)

/-- The keys of a map. -/
def Map.keys {α : Type} (m : Map α) : List Nat := m.map Prod.fst

/-- The one form a map is kept in: strictly rising keys. -/
abbrev Map.wf {α : Type} (m : Map α) : Prop := List.Pairwise (· < ·) (Map.keys m)

end Sys2Proof
end

