-- ==== Sys2Proof/Machine/Bits.lean ====
section
/-! DEFINITION. Sets coded as words (R181), bytes and words, the check value (R182), small list helpers. -/

namespace Sys2Proof.Machine

/-- Is member i in the set? -/
def setHas {w : Nat} (s : BitVec w) (i : Nat) : Bool := s.getLsbD i

/-- The set with member i in it. -/
def setInsert {w : Nat} (s : BitVec w) (i : Nat) : BitVec w := s ||| BitVec.twoPow w i

/-- The set with member i out of it. -/
def setErase {w : Nat} (s : BitVec w) (i : Nat) : BitVec w := s &&& ~~~ BitVec.twoPow w i

/-- The set a list of numbers names. -/
def setOf (w : Nat) (l : List Nat) : BitVec w := l.foldl setInsert 0

/-- The members of a set, lowest first. -/
def setList {w : Nat} (s : BitVec w) : List Nat := (List.range w).filter (setHas s)

/-- Is every member of a in b? -/
def subset {w : Nat} (a b : BitVec w) : Bool := a &&& b == a

/-- The high byte of a word: multi-byte numbers are sent high byte first (R181). -/
def hiByte (x : BitVec 16) : Byte := x.extractLsb' 8 8

/-- The low byte of a word. -/
def loByte (x : BitVec 16) : Byte := x.extractLsb' 0 8

/-- The two bytes of a word, high byte first (R181). -/
def wordBytes (x : BitVec 16) : List Byte := [hiByte x, loByte x]

/-- The word of two bytes, high byte first (R181). -/
def wordOf (h l : Byte) : BitVec 16 := h ++ l

/-- The four bytes of a 32-bit word, high byte first (R181). -/
def longBytes (x : BitVec 32) : List Byte :=
  [x.extractLsb' 24 8, x.extractLsb' 16 8, x.extractLsb' 8 8, x.extractLsb' 0 8]

/-- A number in one byte. -/
def byteOf (n : Nat) : Byte := BitVec.ofNat 8 n

/-- A truth value in one byte's bit 0. -/
def bit (b : Bool) : BitVec 1 := BitVec.ofBool b

/-- A signed number as a 16-bit two's-complement word, 8000h when it is absent (R181). -/
def signedWord : Option Int → BitVec 16
  | none => 0x8000
  | some x => BitVec.ofInt 16 x

/-- One data bit into the check register (R182). -/
def checkBit (r : BitVec 16) (d : Bool) : BitVec 16 :=
  if r.getLsbD 15 != d then (r <<< 1) ^^^ 0x1021 else r <<< 1

/-- One byte into the check register, most significant bit first (R182). -/
def checkByte (r : BitVec 16) (b : Byte) : BitVec 16 :=
  [7, 6, 5, 4, 3, 2, 1, 0].foldl (fun r i => checkBit r (b.getLsbD i)) r

/-- The check value of a list of bytes (R182): the register starts at FFFFh. -/
def checkValue (bytes : List Byte) : BitVec 16 := bytes.foldl checkByte 0xFFFF

/-- A 16-bit count that stops at its largest value (R180). -/
def satInc (c : Count) : Count := if c = 65535 then c else c + 1

/-- Change the first element that the test picks. -/
def updateFirst {α : Type} (p : α → Bool) (f : α → α) : List α → List α
  | [] => []
  | x :: l => if p x then f x :: l else x :: updateFirst p f l

/-- Change the element at a position. -/
def updateAt {α : Type} (f : α → α) : Nat → List α → List α
  | _, [] => []
  | 0, x :: l => f x :: l
  | n + 1, x :: l => x :: updateAt f n l

/-- Take the first element that the test picks out of the list. -/
def removeFirst {α : Type} (p : α → Bool) : List α → List α
  | [] => []
  | x :: l => if p x then l else x :: removeFirst p l

end Sys2Proof.Machine
end

