-- ==== Sys2Proof/Machine/Flags.lean ====
section
/-! DEFINITION. The value and the quality flags of a channel (R2), and the codes of zones and levels (R181). -/

namespace Sys2Proof.Machine

/-- The value of a channel converted with four samples (R2): the sum plus 2, divided by 4, the remainder discarded. -/
def averageOf (s0 s1 s2 s3 : Value) : Value :=
  BitVec.ofNat 12 ((s0.toNat + s1.toNat + s2.toNat + s3.toNat + 2) / 4)

/-- The quality flags that a channel's samples give (R2). -/
def qualityOf (samples : List Value) : Quality where
  clippedLow  := samples.any (· == 0)
  clippedHigh := samples.any (· == 4095)
  averaged    := samples.length == 4

/-- The four bits of flags above the value in a value word (R181), the spare bit 0. -/
def Quality.bits (q : Quality) : BitVec 4 := 0#1 ++ bit q.averaged ++ bit q.clippedHigh ++ bit q.clippedLow

/-- The value word of a value and its flags (R181). -/
def valueWord (v : Value) (q : Quality) : BitVec 16 := Quality.bits q ++ v

/-- The value of a value word. -/
def valueOfWord (x : BitVec 16) : Value := x.extractLsb' 0 12

/-- The flags of a value word; the spare bit is ignored (R182). -/
def qualityOfWord (x : BitVec 16) : Quality where
  clippedLow  := x.getLsbD 12
  clippedHigh := x.getLsbD 13
  averaged    := x.getLsbD 14

/-- Zone codes (R181). -/
def zoneCode : Zone → BitVec 2
  | .unknown => 0
  | .below => 1
  | .inside => 2
  | .above => 3

/-- The zone of a code (R181). -/
def zoneOfCode (c : BitVec 2) : Zone :=
  if c = 0 then .unknown else if c = 1 then .below else if c = 2 then .inside else .above

/-- The presence period of a code, in milliseconds (R183). -/
def periodMs (c : BitVec 2) : Nat := if c = 0 then 100 else if c = 1 then 250 else if c = 2 then 500 else 1000

end Sys2Proof.Machine
end

