-- ==== Sys2Proof/Machine/Operands.lean ====
section
/-! DEFINITION. The operand forms of the commands: what a received frame's fields must hold (R158 check 2, R182), the argument
of a QUERY (R175, Table 11-1), the channel list and the samples of a MEASURE (R9), keys. -/

namespace Sys2Proof.Machine

/-- A station's address (Table 0-2): 1 to 30. -/
def isStation (n : Nat) : Bool := 1 ≤ n && n ≤ 30

/-- The number a key is kept under: key order is the order of these numbers (R64), and it is the key byte of R181. -/
def keyIx (station : Addr) (c : Nat) : Nat := station.toNat * 8 + c

/-- The number of a key. -/
def Key.ix (k : Key) : Nat := keyIx k.station k.channel.toNat

/-- The station of a key's number. -/
def ixStation (ix : Nat) : Nat := ix / 8

/-- The channel of a key's number. -/
def ixChannel (ix : Nat) : Nat := ix % 8

/-- A signed word that holds a value or is 8000h (R181, R183): −4095 to 4095. -/
def signedWordOk (x : BitVec 16) : Bool := x == 0x8000 || (-4095 ≤ x.toInt && x.toInt ≤ 4095)

/-- Precedence classes (Table 12-1). -/
def Body.cls : Body → BitVec 2
  | .presence _ => 3
  | .sweep _ => 1
  | .measure .. => 1
  | .result .. => 2
  | .refuse .. => 2
  | .alert _ => 0
  | .ack _ => 0
  | .query .. => 3
  | .reply .. => 2

/-- The precedence key of a frame (R148): its class, then its source address. -/
def Frame.key (f : Frame) : Nat := (Body.cls f.body).toNat * 32 + f.src.toNat

/-- Kind codes (Table 12-1). -/
def Body.code : Body → BitVec 4
  | .presence _ => 1
  | .sweep _ => 2
  | .measure .. => 3
  | .result .. => 4
  | .refuse .. => 5
  | .alert _ => 6
  | .ack _ => 7
  | .query .. => 8
  | .reply .. => 9

/-- PRESENCE, SWEEP, RESULT and ALERT carry destination 31 (R158). -/
def Body.broadcast : Body → Bool
  | .presence _ => true
  | .sweep _ => true
  | .result .. => true
  | .alert _ => true
  | .measure .. => false
  | .refuse .. => false
  | .ack _ => false
  | .query .. => false
  | .reply .. => false

/-- The payload length is one the kind allows (Table 12-1); the kinds whose length is fixed have it by their form. -/
def Body.lengthOk : Body → Bool
  | .measure _ _ channels => channels.length ≤ 8
  | .result _ items => 1 ≤ items.length && items.length ≤ 8
  | .reply _ _ _ content => content.length ≤ 30
  | .presence _ => true
  | .sweep _ => true
  | .refuse .. => true
  | .alert _ => true
  | .ack _ => true
  | .query .. => true

/-- A cause holds values in range (R182): the requester of a MEASURE cause is a station. -/
def Cause.inRange : Cause → Bool
  | .measure requester _ => isStation requester.toNat
  | .sweep _ => true
  | .trigger _ => true
  | .cadence _ => true

/-- The byte at a place of a REPLY's content, where there is one, passes a test. -/
def byteHolds (content : List Byte) (i : Nat) (p : Nat → Bool) : Bool :=
  match content[i]? with
  | none => true
  | some b => p b.toNat

/-- The word at a place of a REPLY's content, where there is one, passes a test. -/
def wordHolds (content : List Byte) (i : Nat) (p : BitVec 16 → Bool) : Bool :=
  match content[i]?, content[i + 1]? with
  | some h, some l => p (wordOf h l)
  | _, _ => true

/-- A threshold lies in the range of the watch's kind (Table 5-1, R82 check 5): −4095 to 4095 for DIFFERENCE, 0 to 4095 for LEVEL. -/
def thresholdOk (difference : Bool) (x : Int) : Bool :=
  (if difference then decide (-4095 ≤ x) else decide (0 ≤ x)) && decide (x ≤ 4095)

/-- Bit i of the byte at a place of a REPLY's content. -/
def bitAt (content : List Byte) (place i : Nat) : Bool := ((content[place]?).getD 0).getLsbD i

/-- Every numeric field of a REPLY's content (Table 12-3) that is present lies in its range (R182). Coded fields with unlisted codes,
bytes beyond the layout, bytes that stand where NOT_HELD says there are none, fields that the content is too short to hold, and fields
that do not agree with each other are let pass: the block discards every REPLY (log entry 16). A field marked absent is not read (log entry 15). -/
def replyInRange (kind : BitVec 3) (notHeld : Bool) (content : List Byte) : Bool :=
  if notHeld then true
  else match kind.toNat with
  | 0 =>
    byteHolds content 0 (· ≤ 2) &&
      ((content[0]?).getD 0 != 0 ||
        (byteHolds content 4 (· ≤ 3) && byteHolds content 10 (· ≤ 6) && byteHolds content 11 (· ≤ 10) &&
          byteHolds content 12 (· ≤ 4) && byteHolds content 13 (· ≤ 4) && byteHolds content 14 (· ≤ 16) &&
          byteHolds content 15 (· ≤ 2)))
  | 1 =>
    byteHolds content 0 (fun b => isStation (b / 8)) &&
      (!(bitAt content 1 4 && byteHolds content 4 (· % 4 == 1)) || byteHolds content 5 isStation)
  | 2 =>
    byteHolds content 0 (· ≤ 15) && byteHolds content 1 (· ≤ 16) &&
      [0, 1, 2, 3].all (fun j => wordHolds content (2 + 6 * j + 4) signedWordOk)
  | 3 =>
    byteHolds content 0 (· ≤ 15) && byteHolds content 2 (fun b => isStation (b / 8)) &&
      byteHolds content 3 (fun b => b / 8 ≤ 30) &&
      (!bitAt content 1 6 || wordHolds content 4 (fun x => thresholdOk (bitAt content 1 0) x.toInt)) &&
      (!bitAt content 1 7 || wordHolds content 6 (fun x => thresholdOk (bitAt content 1 0) x.toInt)) &&
      byteHolds content 9 (fun b => 1 ≤ b && b ≤ 8) && byteHolds content 10 (fun b => b ≤ 7 || b == 255) &&
      (!bitAt content 11 4 || byteHolds content 12 (fun b => 1 ≤ b && b ≤ ((content[9]?).getD 0).toNat)) &&
      wordHolds content 15 signedWordOk
  | 5 => byteHolds content 0 (· ≤ 7) && byteHolds content 1 (fun b => b % 16 ≤ 8)
  | 6 => byteHolds content 0 isStation && (!bitAt content 1 7 || byteHolds content 9 (· ≤ 16))
  | _ => true

/-- Every numeric field of the payload lies in its range, but for the fields whose owner judges them (R182): the samples and
channels of a MEASURE (R9), the reason of a REFUSE, the level of an ALERT, the kind and argument of a QUERY (R175). -/
def Body.fieldsOk : Body → Bool
  | .presence p => p.alerts.toNat ≤ 16
  | .result cause _ => Cause.inRange cause
  | .alert a => signedWordOk a.value
  | .reply _ kind notHeld content => replyInRange kind notHeld content
  | .sweep _ => true
  | .measure .. => true
  | .refuse .. => true
  | .ack _ => true
  | .query .. => true

/-- Check 2 of R158 on a frame whose kind is one of the nine: payload length, source, destination, fields. -/
def Frame.wellFormed (f : Frame) : Bool :=
  Body.lengthOk f.body && isStation f.src.toNat &&
    (if Body.broadcast f.body then f.dst == allStations else isStation f.dst.toNat) && Body.fieldsOk f.body

/-- The argument suits the kind (R175 case 1, Table 11-1). Kind code 7 names no kind, so none suits it (R182). -/
def argSuits (kind : BitVec 3) (arg : QueryArg) : Bool :=
  match kind.toNat, arg with
  | 0, .absent => true
  | 0, .one part => part.toNat ≤ 2
  | 1, .two station channel => isStation station.toNat && channel.toNat ≤ 7
  | 2, .one start => start.toNat ≤ 15
  | 3, .one index => index.toNat ≤ 15
  | 4, .one which => which.toNat ≤ 1
  | 5, .one group => group.toNat ≤ 7
  | 6, .one address => isStation address.toNat
  | _, _ => false

/-- Check 1 of R9 fails: no channel, a channel twice, or samples other than 1 and 4. -/
def measureBadRequest (samples : Byte) (channels : List Byte) : Bool :=
  channels.isEmpty || !decide channels.Nodup || !(samples == 1 || samples == 4)

/-- Check 2 of R9 fails: a channel above 7, or one outside the measurable set. -/
def measureBadChannel (measurable : ChannelSet) (channels : List Byte) : Bool :=
  channels.any (fun c => !(c.toNat ≤ 7 && setHas measurable c.toNat))

/-- The channel set a MEASURE lists. -/
def channelsOf (channels : List Byte) : ChannelSet := setOf 8 (channels.map BitVec.toNat)

end Sys2Proof.Machine
end

