-- ==== Sys2Proof/Machine/State.lean ====
section
/-! DEFINITION. Everything the spec gives the station to hold, block by block (spec/00_scope.md Table 0-1), as plain data, and the
station right after reset. Each field's docstring names the rule that gives it. -/

namespace Sys2Proof.Machine

/-- Why a command could end a run. The station has a state FAULT, which is a next state (R174); no command ends a run, so there is
no constructor. -/
inductive Fault where
  deriving DecidableEq, Repr

/-- Why a command could have no meaning. -/
inductive Refusal where
  /-- Raised by `exec` alone, for a row without a meaning. No row is without one. Safe: the model stops. -/
  | notModelled (mnemonic : String)
  deriving DecidableEq, Repr

/-- Station states (R163). -/
inductive Mode where
  | unloaded
  | loading
  | joining
  | active
  | silenced
  | fault
  deriving DecidableEq, Repr

/-- Start causes (R165). -/
inductive StartCause where
  | power
  | line
  deriving DecidableEq, Repr

/-- Fault codes (R165); IMAGE_RANGE records the byte offset of the failing field. -/
inductive FaultCode where
  | imageAbsent
  | imageCheck
  | imageRange (offset : Nat)
  | addressConflict
  deriving DecidableEq, Repr

/-- Release reasons of SILENCED (R171). -/
inductive ReleaseReason where
  | errors
  | conflict
  deriving DecidableEq, Repr

/-- Samples of a job (R4): 1 or 4. -/
inductive Samples where
  | one
  | four
  deriving DecidableEq, Repr

/-- Edge modes of the trigger input (R35). -/
inductive EdgeMode where
  | rising
  | falling
  | both
  deriving DecidableEq, Repr

/-- Kinds of watch (R81). -/
inductive WatchKind where
  | level
  | difference
  deriving DecidableEq, Repr

/-- Moments of a watch (R81). -/
inductive Moment where
  | onUpdate
  | onSweep
  deriving DecidableEq, Repr

/-- Crossings of a watch (R81, R93). -/
inductive Crossing where
  | rising
  | falling
  | both
  deriving DecidableEq, Repr

/-- The configured fields of a watch (R81, Table 5-1). -/
structure WatchConfig where
  kind        : WatchKind
  sourceA     : Key
  sourceB     : Option Key
  moment      : Moment
  high        : Option Int
  low         : Option Int
  hysteresis  : Nat
  crossing    : Crossing
  persistence : Nat
  group       : Option (BitVec 3)
  level       : BitVec 2
  deriving DecidableEq, Repr

/-- The configured fields of a group (R113). -/
structure GroupConfig where
  quorum : Nat
  lineA  : Bool
  lineB  : Bool
  deriving DecidableEq, Repr

/-- The settings of an image (R3, R35, R41, Table 10-3, Table 12-4), durations in milliseconds. -/
structure Settings where
  own            : Addr
  measurable     : ChannelSet
  triggerSet     : ChannelSet
  triggerSamples : Samples
  edge           : EdgeMode
  debounce       : Nat
  sweepSet       : ChannelSet
  sweepSamples   : Samples
  sweepPeriod    : Nat
  deadline       : Nat
  cadenceSet     : ChannelSet
  cadenceSamples : Samples
  cadence        : Option Nat
  settle         : Nat
  presence       : BitVec 2
  freshness      : Nat
  reply          : Nat
  alertRepeat    : Nat
  groups         : List GroupConfig
  watches        : List WatchConfig
  signature      : Count
  deriving DecidableEq, Repr

/-- What stands for the settings while no image is loaded: nothing is configured. -/
def Settings.blank : Settings where
  own := 0
  measurable := 0
  triggerSet := 0
  triggerSamples := .one
  edge := .rising
  debounce := 0
  sweepSet := 0
  sweepSamples := .one
  sweepPeriod := 0
  deadline := 0
  cadenceSet := 0
  cadenceSamples := .one
  cadence := none
  settle := 0
  presence := 0
  freshness := 0
  reply := 0
  alertRepeat := 0
  groups := []
  watches := []
  signature := 0

/-- The kept image (R168): its bytes and the settings they code. -/
structure Image where
  bytes    : List Byte
  settings : Settings
  deriving DecidableEq, Repr

/-- Station control (R163 to R174). -/
structure Station where
  mode          : Mode                  -- R163
  image         : Option Image          -- R166, R168
  reading       : List Byte             -- R166: the bytes the memory has given so far
  conflicts     : Nat                   -- R173
  startCause    : StartCause            -- R165
  lastFault     : Option FaultCode      -- R165
  joinWait      : Timer                 -- R169
  release       : Timer                 -- R171
  releaseReason : Option ReleaseReason  -- R171
  clearing      : Timer                 -- R173
  faultn        : Level                 -- R163: the FAULTN line
  rstnHigh      : Bool                  -- R164: the RSTN line
  deriving DecidableEq, Repr

/-- The trigger input (R35 to R40). The debounce state is SETTLING exactly while the debounce timer runs. -/
structure TriggerInput where
  line     : Level          -- R36: the TRG line
  accepted : Option Level   -- R36; none while TRG is not followed
  debounce : Timer          -- R38
  count    : Count          -- R39
  deriving DecidableEq, Repr

/-- The cadence timer and count (R41). -/
structure Cadence where
  timer : Timer
  count : Count
  deriving DecidableEq, Repr

/-- Job classes (R4). -/
inductive JobClass where
  | trigger
  | sweep
  | peer
  | cadence
  deriving DecidableEq, Repr

/-- A job record (R4). The class of a job is that of its cause (`Job.cls`). -/
structure Job where
  channels : ChannelSet
  samples  : Samples
  cause    : Cause
  progress : List Item
  deriving DecidableEq, Repr

/-- A finished RESULT: its cause and items (R23). -/
structure Finished where
  cause : Cause
  items : List Item
  deriving DecidableEq, Repr

/-- The converter's places (R5). -/
structure Converter where
  trigger   : Option Job
  sweep     : Option Job
  cadence   : Option Job
  peers     : List Job
  running   : Option Job
  suspended : Option Job
  hold      : Option Finished
  deriving DecidableEq, Repr

/-- States of a tally (R55). -/
inductive TallyState where
  | opened
  | complete
  | incomplete
  | superseded
  deriving DecidableEq, Repr

/-- A tally record (R55). -/
structure Tally where
  number   : Count
  state    : TallyState
  expected : StationSet
  reported : StationSet
  extra    : Count
  deriving DecidableEq, Repr

/-- The sweep unit (R44, R51, R55, R58). -/
structure SweepUnit where
  last     : Option Count
  call     : Timer
  current  : Option Tally
  previous : Option Tally
  deadline : Timer
  deriving DecidableEq, Repr

/-- States of a value-table entry (R65). -/
inductive Freshness where
  | empty
  | fresh
  | stale
  deriving DecidableEq, Repr

/-- The latest part of an entry (R65). -/
structure Latest where
  value : Value
  flags : Quality
  cause : Cause
  stamp : Time
  deriving DecidableEq, Repr

/-- The sweep part of an entry (R65, R70). -/
structure SweepPart where
  value  : Value
  flags  : Quality
  number : Count
  deriving DecidableEq, Repr

/-- A value-table entry (R65); the table keeps it under its key's number. -/
structure Entry where
  pinned      : Bool
  state       : Freshness
  unreachable : Bool
  latest      : Option Latest
  sweep       : Option SweepPart
  timer       : Timer
  deriving DecidableEq, Repr

/-- A candidate zone and its count (R83). -/
structure Candidate where
  zone  : Zone
  count : Nat
  deriving DecidableEq, Repr

/-- The run-time fields of a watch (R83, Table 5-2). -/
structure WatchRun where
  zone      : Zone
  candidate : Option Candidate
  missed    : Count
  last      : Option Int
  deriving DecidableEq, Repr

/-- The causes of an alert (R101). -/
inductive AlertCause where
  | threshold
  | sourceLost
  deriving DecidableEq, Repr

/-- A set of active causes (R101). -/
structure Causes where
  threshold  : Bool
  sourceLost : Bool
  deriving DecidableEq, Repr

/-- An alert record (R101, Table 6-1). `changed` says that a cause report has changed the record since its frame in queue was
formed (R108). -/
structure AlertRecord where
  watch        : Nat
  sequence     : Count
  causes       : Causes
  acknowledged : Bool
  announce     : Bool
  frame        : Option Alert
  changed      : Bool
  zone         : Zone
  value        : Option Int
  deriving DecidableEq, Repr

/-- A pending final announcement (R105). -/
structure FinalAnnouncement where
  watch    : Nat
  sequence : Count
  zone     : Zone
  value    : Option Int
  frame    : Option Alert
  deriving DecidableEq, Repr

/-- A group of the group table (R113). The asserter map holds each asserting station's set of watch indices. -/
structure Group where
  quorum    : Nat
  lineA     : Bool
  lineB     : Bool
  asserters : Map WatchSet
  active    : Bool
  deriving DecidableEq, Repr

/-- The alert unit (R101 to R121), with the levels it drives on ALA and ALB (true: asserted). -/
structure AlertUnit where
  queue  : List AlertRecord
  finals : List FinalAnnouncement
  seq    : Count
  timer  : Timer
  groups : List Group
  ala    : Bool
  alb    : Bool
  deriving DecidableEq, Repr

/-- Where a pending entry stands (R124): AWAITING with its send DUE, QUEUED or SENT (the reply timer runs), or BACKING_OFF (the
back-off timer runs). -/
inductive Stage where
  | due
  | queued
  | sent (reply : Nat)
  | backingOff (left : Nat)
  deriving DecidableEq, Repr

/-- An entry of the pending table (R124). -/
structure PendingEntry where
  target        : Addr
  tag           : Tag
  channels      : ChannelSet
  attempts      : Nat
  stage         : Stage
  duplicateUsed : Bool
  deriving DecidableEq, Repr

/-- The requester (R122 to R136). The pending table is kept in the order in which the entries' sends last became due (R127). -/
structure Requester where
  wanted   : Map ChannelSet
  holdOffs : Map Nat
  pending  : List PendingEntry
  tag      : Tag
  served   : Option Addr
  deriving DecidableEq, Repr

/-- States of a peer slot that is not ABSENT (R137, R138). -/
inductive PeerState where
  | present
  | silent
  | lost
  deriving DecidableEq, Repr

/-- A peer slot that is not ABSENT (R138). The six optional fields are the contents of the latest PRESENCE. -/
structure Peer where
  state : PeerState
  heard : Time
  info  : Option Presence
  quiet : Timer            -- the SILENT timer
  gone  : Timer            -- the LOST timer
  deriving DecidableEq, Repr

/-- The roster (R137 to R147). The own slot is SELF when `self` names it; a peer slot that `peers` does not list is ABSENT. -/
structure Roster where
  self     : Option Addr
  peers    : Map Peer
  presence : Timer
  due      : Bool
  deriving DecidableEq, Repr

/-- A frame in the transmit queue (R150, R153). -/
structure QueuedFrame where
  frame     : Frame
  attempts  : Nat          -- R153
  onLine    : Bool         -- R150
  withdrawn : Bool         -- R156: a withdrawal is marked on it
  orphan    : Bool         -- R105: the final announcement it came from has been dropped
  deriving DecidableEq, Repr

/-- A refusal of the refusal list (R157). -/
structure RefusalItem where
  dst    : Addr
  kind   : RefusedKind
  tag    : Tag
  reason : BitVec 3
  deriving DecidableEq, Repr

/-- The bus unit (R148 to R162). -/
structure BusUnit where
  queue         : List QueuedFrame
  refusals      : List RefusalItem
  errors        : Nat
  flushed       : Option QueuedFrame   -- R161: the frame that a flush removed while it was on the line, until its end there
  deriving DecidableEq, Repr

/-- A query of the pending list (R175). -/
structure PendingQuery where
  asker : Addr
  tag   : Tag
  kind  : BitVec 3
  arg   : QueryArg
  deriving DecidableEq, Repr

/-- The sixteen counters (R180, Table 11-2). -/
structure Counters where
  rxCheckErrors    : Count
  rxMalformed      : Count
  txFailures       : Count
  refusalsDropped  : Count
  measureRefused   : Count
  requestsIgnored  : Count
  queriesDropped   : Count
  triggerOverruns  : Count
  cadenceSkips     : Count
  sweepsSuperseded : Count
  staleSweeps      : Count
  lateResults      : Count
  extraReports     : Count
  evictions        : Count
  unmatchedAcks    : Count
  unexpectedReply  : Count
  deriving DecidableEq, Repr

/-- The station. -/
structure State where
  station   : Station
  time      : Time
  trigger   : TriggerInput
  cadence   : Cadence
  converter : Converter
  sweeps    : SweepUnit
  table     : Map Entry
  watches   : List WatchRun
  alerts    : AlertUnit
  requester : Requester
  roster    : Roster
  bus       : BusUnit
  queries   : List PendingQuery
  counters  : Counters
  draws     : Nat           -- the model's own: open orders settled so far (log entry 17)
  pending   : List Instr    -- the waiting commands, first in, first out
  deriving DecidableEq, Repr

/-- The converter after a reset (R31). -/
def Converter.empty : Converter where
  trigger := none
  sweep := none
  cadence := none
  peers := []
  running := none
  suspended := none
  hold := none

/-- The sweep unit after a reset (R63). -/
def SweepUnit.empty : SweepUnit where
  last := none
  call := none
  current := none
  previous := none
  deadline := none

/-- A group of which nothing is configured. -/
def Group.unconfigured : Group where
  quorum := 0
  lineA := false
  lineB := false
  asserters := []
  active := false

/-- The alert unit after a reset (R102, R120). -/
def AlertUnit.empty : AlertUnit where
  queue := []
  finals := []
  seq := 0
  timer := none
  groups := List.replicate 8 Group.unconfigured
  ala := false
  alb := false

/-- The requester after a reset (R136). -/
def Requester.empty : Requester where
  wanted := []
  holdOffs := []
  pending := []
  tag := 0
  served := none

/-- The roster after a reset (R146). -/
def Roster.empty : Roster where
  self := none
  peers := []
  presence := none
  due := false

/-- The bus unit after a reset (R162). -/
def BusUnit.empty : BusUnit where
  queue := []
  refusals := []
  errors := 0
  flushed := none

/-- The counters after a reset (R180). -/
def Counters.zero : Counters where
  rxCheckErrors := 0
  rxMalformed := 0
  txFailures := 0
  refusalsDropped := 0
  measureRefused := 0
  requestsIgnored := 0
  queriesDropped := 0
  triggerOverruns := 0
  cadenceSkips := 0
  sweepsSuperseded := 0
  staleSweeps := 0
  lateResults := 0
  extraReports := 0
  evictions := 0
  unmatchedAcks := 0
  unexpectedReply := 0

/-- The station right after a power-on reset (R164, R165 and the reset rule of each chapter). The levels of the input lines TRG and
RSTN are not the station's to reset: LOW and high here (log entries 4 and 5). -/
def State.reset : State where
  station :=
    { mode := .unloaded, image := none, reading := [], conflicts := 0, startCause := .power, lastFault := none,
      joinWait := none, release := none, releaseReason := none, clearing := none, faultn := .high, rstnHigh := true }
  time := 0
  trigger := { line := .low, accepted := none, debounce := none, count := 0 }
  cadence := { timer := none, count := 0 }
  converter := Converter.empty
  sweeps := SweepUnit.empty
  table := []
  watches := []
  alerts := AlertUnit.empty
  requester := Requester.empty
  roster := Roster.empty
  bus := BusUnit.empty
  queries := []
  counters := Counters.zero
  draws := 0
  pending := []

end Sys2Proof.Machine
end

