-- ==== Sys2Proof/Machine/Ops.lean ====
section
/-! DEFINITION. Operations that several blocks share: the station state and settings, timers (R33), counters (R180), the transmit
queue and its quotas (R150), and an order that the rules leave open. -/

namespace Sys2Proof.Machine

/-- The settings in force (R168); nothing is configured before a load. -/
def State.cfg (s : State) : Settings :=
  match s.station.image with
  | some im => im.settings
  | none => Settings.blank

/-- The own address (R168). -/
def State.own (s : State) : Addr := s.cfg.own

/-- The station is ACTIVE. -/
def State.isActive (s : State) : Bool := s.station.mode == .active

/-- JOINING, ACTIVE or SILENCED: the states in which the station is configured and works (R32, R45, R77, R98, R118, R145). -/
def State.works (s : State) : Bool :=
  match s.station.mode with
  | .joining => true
  | .active => true
  | .silenced => true
  | .unloaded => false
  | .loading => false
  | .fault => false

/-- One advance of the station time at a timer (R33). A timer that is due stays due until its expiry is taken (log entry 3). -/
def tick (t : Timer) : Timer := t.map (· - 1)

/-- The timer has run down: its expiry takes place now (R33, log entry 3). -/
def isDue (t : Timer) : Bool := t == some 0

/-- The age of a stamp (R34): the station time minus the stamp, modulo 2^32. -/
def ageOf (now stamp : Time) : Nat := (now - stamp).toNat

/-- The counters by name (Table 11-2). -/
inductive Counter where
  | rxCheckErrors
  | rxMalformed
  | txFailures
  | refusalsDropped
  | measureRefused
  | requestsIgnored
  | queriesDropped
  | triggerOverruns
  | cadenceSkips
  | sweepsSuperseded
  | staleSweeps
  | lateResults
  | extraReports
  | evictions
  | unmatchedAcks
  | unexpectedReply
  deriving DecidableEq, Repr

/-- One counter risen by one; a counter at 65535 stays there (R180). -/
def Counters.bump (c : Counters) : Counter → Counters
  | .rxCheckErrors => { c with rxCheckErrors := satInc c.rxCheckErrors }
  | .rxMalformed => { c with rxMalformed := satInc c.rxMalformed }
  | .txFailures => { c with txFailures := satInc c.txFailures }
  | .refusalsDropped => { c with refusalsDropped := satInc c.refusalsDropped }
  | .measureRefused => { c with measureRefused := satInc c.measureRefused }
  | .requestsIgnored => { c with requestsIgnored := satInc c.requestsIgnored }
  | .queriesDropped => { c with queriesDropped := satInc c.queriesDropped }
  | .triggerOverruns => { c with triggerOverruns := satInc c.triggerOverruns }
  | .cadenceSkips => { c with cadenceSkips := satInc c.cadenceSkips }
  | .sweepsSuperseded => { c with sweepsSuperseded := satInc c.sweepsSuperseded }
  | .staleSweeps => { c with staleSweeps := satInc c.staleSweeps }
  | .lateResults => { c with lateResults := satInc c.lateResults }
  | .extraReports => { c with extraReports := satInc c.extraReports }
  | .evictions => { c with evictions := satInc c.evictions }
  | .unmatchedAcks => { c with unmatchedAcks := satInc c.unmatchedAcks }
  | .unexpectedReply => { c with unexpectedReply := satInc c.unexpectedReply }

/-- Counters 1 to 8 (STATUS part 1, Table 11-2). -/
def Counters.first (c : Counters) : List Count :=
  [c.rxCheckErrors, c.rxMalformed, c.txFailures, c.refusalsDropped, c.measureRefused, c.requestsIgnored, c.queriesDropped,
    c.triggerOverruns]

/-- Counters 9 to 16 (STATUS part 2, Table 11-2). -/
def Counters.second (c : Counters) : List Count :=
  [c.cadenceSkips, c.sweepsSuperseded, c.staleSweeps, c.lateResults, c.extraReports, c.evictions, c.unmatchedAcks, c.unexpectedReply]

/-- The state with one counter risen by one. -/
def bump (c : Counter) (s : State) : State := { s with counters := s.counters.bump c }

/-- Producers of frames (R150). -/
inductive Producer where
  | alertUnit
  | sweepUnit
  | requester
  | converter
  | refusalList
  | queryService
  | roster
  deriving DecidableEq, Repr

/-- Quotas of the transmit queue (R150). They add up to 10. -/
def Producer.quota : Producer → Nat
  | .alertUnit => 2
  | .sweepUnit => 1
  | .requester => 1
  | .converter => 2
  | .refusalList => 1
  | .queryService => 2
  | .roster => 1

/-- The producer of a frame, by its kind (R150); the station sends no ACK and no QUERY. -/
def Body.producer : Body → Option Producer
  | .presence _ => some .roster
  | .sweep _ => some .sweepUnit
  | .measure .. => some .requester
  | .result .. => some .converter
  | .refuse .. => some .refusalList
  | .alert _ => some .alertUnit
  | .reply .. => some .queryService
  | .ack _ => none
  | .query .. => none

/-- Is this queued frame of this producer? -/
def QueuedFrame.isOf (p : Producer) (q : QueuedFrame) : Bool := Body.producer q.frame.body == some p

/-- The frames of a producer in the transmit queue. -/
def held (p : Producer) (queue : List QueuedFrame) : Nat := (queue.filter (QueuedFrame.isOf p)).length

/-- The producer has a free place in the transmit queue (R150). -/
def quotaFree (p : Producer) (s : State) : Bool := held p s.bus.queue < p.quota

/-- The station's frames on the line, flushed or not (R150, R161). -/
def onLineFrames (b : BusUnit) : List QueuedFrame := b.queue.filter QueuedFrame.onLine ++ b.flushed.toList

/-- A frame enters the transmit queue with an attempt count of 0 (R150, R153). -/
def enqueue (dst : Addr) (body : Body) (s : State) : State :=
  { s with bus := { s.bus with queue := s.bus.queue ++
      [{ frame := { src := s.own, dst := dst, body := body }, attempts := 0, onLine := false, withdrawn := false, orphan := false }] } }

/-- The outcome of an order that the rules leave open: where every order gives one outcome it is that, and where they differ the
part's choice at this draw decides (`Config.orderChoice`). -/
def settle (n : Nat) (first : State) (rest : List State) : State :=
  if rest.all (fun r => decide (r = first)) then first
  else ((first :: rest)[Config.orderChoice n % (rest.length + 1)]?).getD first

/-- Two events of one step of which either may be taken first. -/
def eitherFirst (f g : State → State) (s : State) : State :=
  settle s.draws (g (f { s with draws := s.draws + 1 })) [f (g { s with draws := s.draws + 1 })]

/-- Three parts of one step that may be taken in any order. -/
def anyOrder (f g h : State → State) (s : State) : State :=
  let s1 := { s with draws := s.draws + 1 }
  settle s.draws (h (g (f s1))) [g (h (f s1)), h (f (g s1)), f (h (g s1)), g (f (h s1)), f (g (h s1))]

/-- An order of several things that the rules leave open: each takes the place, among those after it, that the part's choice at its
draw gives it (`Config.orderChoice`). Every order is one of these. -/
def freeOrder {α : Type} (n : Nat) : List α → List α
  | [] => []
  | [x] => [x]
  | x :: l => (freeOrder (n + 1) l).insertIdx (Config.orderChoice n % (l.length + 1)) x

end Sys2Proof.Machine
end

