-- ==== Sys2Proof/Machine/Alerts.lean ====
section
/-! DEFINITION. The alert unit and the group table (chapter 6): raises, deactivations, announcements, acknowledgement, groups and
alarm lines. -/

namespace Sys2Proof.Machine

/-- No cause is active (R101). -/
def Causes.isEmpty (c : Causes) : Bool := !c.threshold && !c.sourceLost

/-- The set with a cause in it. -/
def Causes.add (c : Causes) : AlertCause → Causes
  | .threshold => { c with threshold := true }
  | .sourceLost => { c with sourceLost := true }

/-- The set with a cause out of it. -/
def Causes.remove (c : Causes) : AlertCause → Causes
  | .threshold => { c with threshold := false }
  | .sourceLost => { c with sourceLost := false }

/-- The cause is in the set. -/
def Causes.has (c : Causes) : AlertCause → Bool
  | .threshold => c.threshold
  | .sourceLost => c.sourceLost

/-- The group and level configured for a watch (R101: taken whenever a frame is formed). -/
def groupOf (cfg : Settings) (w : Nat) : Option (BitVec 3) := (cfg.watches[w]?).bind WatchConfig.group

/-- The level configured for a watch. -/
def levelOf (cfg : Settings) (w : Nat) : BitVec 2 := ((cfg.watches[w]?).map WatchConfig.level).getD 0

/-- The content of the ALERT of a record (R106). -/
def alertOfRecord (cfg : Settings) (r : AlertRecord) : Alert where
  watch := BitVec.ofNat 4 r.watch
  group := groupOf cfg r.watch
  cleared := Causes.isEmpty r.causes
  threshold := r.causes.threshold
  sourceLost := r.causes.sourceLost
  level := levelOf cfg r.watch
  zone := r.zone
  sequence := r.sequence
  value := if !r.causes.threshold && r.causes.sourceLost then signedWord none else signedWord r.value

/-- The content of the ALERT of a final announcement (R106): always CLEARED, with no active cause. -/
def alertOfFinal (cfg : Settings) (f : FinalAnnouncement) : Alert where
  watch := BitVec.ofNat 4 f.watch
  group := groupOf cfg f.watch
  cleared := true
  threshold := false
  sourceLost := false
  level := levelOf cfg f.watch
  zone := f.zone
  sequence := f.sequence
  value := signedWord f.value

/-- A final announcement is eligible when it has no frame in queue (R107). -/
def finalEligible (f : FinalAnnouncement) : Bool := f.frame.isNone

/-- A record is eligible when its announce pending is set and it has no frame in queue (R107). -/
def recordEligible (r : AlertRecord) : Bool := r.announce && r.frame.isNone

/-- A frame is formed for the first eligible item, where the station is ACTIVE and a quota place is free (R107): final
announcements first, then records, each in their order. -/
def announceOne (s : State) : State :=
  if s.isActive && quotaFree .alertUnit s then
    match s.alerts.finals.find? finalEligible with
    | some f =>
      enqueue allStations (.alert (alertOfFinal s.cfg f))
        { s with alerts := { s.alerts with
            finals := updateFirst finalEligible (fun f => { f with frame := some (alertOfFinal s.cfg f) }) s.alerts.finals } }
    | none =>
      match s.alerts.queue.find? recordEligible with
      | some r =>
        enqueue allStations (.alert (alertOfRecord s.cfg r))
          { s with alerts := { s.alerts with
              queue := updateFirst recordEligible
                (fun r => { r with frame := some (alertOfRecord s.cfg r), changed := false }) s.alerts.queue } }
      | none => s
  else s

/-- R107, repeated until the quota of 2 is full or nothing is eligible. -/
def announce (s : State) : State := announceOne (announceOne s)

/-- A group's state (R117): ACTIVE when its quorum is non-zero and its asserter count is at least its quorum. -/
def Group.recompute (g : Group) : Group := { g with active := g.quorum != 0 && decide (g.quorum ≤ g.asserters.length) }

/-- The alarm lines of the group table (R117). -/
def AlertUnit.driveLines (u : AlertUnit) : AlertUnit :=
  { u with ala := u.groups.any (fun g => g.active && g.lineA), alb := u.groups.any (fun g => g.active && g.lineB) }

/-- A change of one group's asserter map, with its state and the lines recomputed (R117). -/
def changeGroup (g : Nat) (f : Map WatchSet → Map WatchSet) (s : State) : State :=
  { s with alerts := AlertUnit.driveLines { s.alerts with
      groups := updateAt (fun gr => Group.recompute { gr with asserters := f gr.asserters }) g s.alerts.groups } }

/-- Watch w joins the set of a station in an asserter map (R114, R115). -/
def assertIn (station w : Nat) (m : Map WatchSet) : Map WatchSet := m.set station (setInsert ((m.find station).getD 0) w)

/-- Watch w leaves the set of a station; a station whose set is empty leaves the map (R113, R114, R115). -/
def denyIn (station w : Nat) (m : Map WatchSet) : Map WatchSet :=
  match m.find station with
  | none => m
  | some ws => if setErase ws w = 0 then m.erase station else m.set station (setErase ws w)

/-- The station's own record of watch w asserts, or no longer asserts, its group (R114). -/
def ownAssert (w : Nat) (asserted : Bool) (s : State) : State :=
  match groupOf s.cfg w with
  | none => s
  | some g => changeGroup g.toNat ((if asserted then assertIn else denyIn) s.own.toNat w) s

/-- A peer leaves the asserter map of every group (R116). -/
def forgetAsserter (station : Nat) (s : State) : State :=
  { s with alerts := AlertUnit.driveLines { s.alerts with
      groups := s.alerts.groups.map (fun gr => Group.recompute { gr with asserters := gr.asserters.erase station }) } }

/-- The new record of a watch (R103 step 1). -/
def AlertRecord.blank (w : Nat) : AlertRecord where
  watch := w
  sequence := 0
  causes := { threshold := false, sourceLost := false }
  acknowledged := false
  announce := false
  frame := none
  changed := false
  zone := .unknown
  value := none

/-- An alert frame of watch w that is not yet cut off from its item. -/
def isAlertOf (w : Nat) (q : QueuedFrame) : Bool :=
  match q.frame.body with
  | .alert a => !q.orphan && a.watch.toNat == w
  | _ => false

/-- A watch's final announcement is dropped; a frame it has in the transmit queue stays there, and its end has no effect on the
alert unit beyond freeing the quota (R105). -/
def dropFinal (w : Nat) (s : State) : State :=
  if s.alerts.finals.any (fun f => f.watch == w) then
    { s with
      alerts := { s.alerts with finals := s.alerts.finals.filter (fun f => f.watch != w) }
      bus := { s.bus with queue := s.bus.queue.map (fun q => if isAlertOf w q then { q with orphan := true } else q) } }
  else s

/-- A watch without a record gets one at the tail of the queue, and its final announcement is dropped (R103 step 1). -/
def ensureRecord (w : Nat) (s : State) : State :=
  if s.alerts.queue.any (fun r => r.watch == w) then s
  else dropFinal w { s with alerts := { s.alerts with queue := s.alerts.queue ++ [AlertRecord.blank w] } }

/-- A raise (R103): a cause becomes active, or a zone change under BOTH. -/
def raiseAlert (w : Nat) (cause : AlertCause) (zone : Zone) (x : Option Int) (s : State) : State :=
  let s1 := ensureRecord w s
  let wasEmpty := s1.alerts.queue.any (fun r => r.watch == w && Causes.isEmpty r.causes)
  let seq := s1.alerts.seq + 1
  let s2 := { s1 with alerts := { s1.alerts with
    seq := seq
    queue := updateFirst (fun r => r.watch == w)
      (fun r => { r with
        sequence := seq
        causes := Causes.add r.causes cause
        acknowledged := false
        announce := true
        changed := true
        zone := zone
        value := if cause = .threshold then x else r.value }) s1.alerts.queue } }
  announce (if wasEmpty then ownAssert w true s2 else s2)

/-- The final announcement of a removed record (R105), where its announce pending is set or a frame of it is in the queue. -/
def finalOf (r : AlertRecord) : List FinalAnnouncement :=
  if r.announce || r.frame.isSome then
    [{ watch := r.watch, sequence := r.sequence, zone := r.zone, value := r.value, frame := r.frame }]
  else []

/-- A record leaves the queue, and its final announcement, if it makes one, joins the list (R105). -/
def removeRecord (r : AlertRecord) (s : State) : State :=
  { s with alerts := { s.alerts with
      queue := removeFirst (fun q => q.watch == r.watch) s.alerts.queue
      finals := s.alerts.finals ++ finalOf r } }

/-- A report that a cause becomes inactive (R104). A report for a watch whose record does not hold the cause changes nothing:
the watch unit makes none (log entry 11). -/
def deactivateAlert (w : Nat) (cause : AlertCause) (zone : Zone) (x : Option Int) (s : State) : State :=
  match s.alerts.queue.find? (fun r => r.watch == w) with
  | none => s
  | some r =>
    if Causes.has r.causes cause then
      let r' := { r with
        causes := Causes.remove r.causes cause
        announce := true
        changed := true
        zone := zone
        value := if cause = .threshold then x else r.value }
      let s1 := { s with alerts := { s.alerts with queue := updateFirst (fun q => q.watch == w) (fun _ => r') s.alerts.queue } }
      if Causes.isEmpty r'.causes then
        announce (ownAssert w false (if r.acknowledged then removeRecord r' s1 else s1))
      else announce s1
    else s

/-- An ACK (R111): the record nearest the head that holds the sequence. -/
def takeAck (q : Count) (s : State) : State :=
  match s.alerts.queue.find? (fun r => r.sequence == q) with
  | none => bump .unmatchedAcks s
  | some r =>
    if Causes.isEmpty r.causes then announce (removeRecord r s)
    else
      announce { s with alerts := { s.alerts with
        queue := updateFirst (fun r => r.sequence == q) (fun r => { r with acknowledged := true }) s.alerts.queue } }

/-- A received ALERT feeds the group table (R115). -/
def takeAlert (src : Addr) (a : Alert) (s : State) : State :=
  match a.group with
  | none => s
  | some g => changeGroup g.toNat ((if a.cleared then denyIn else assertIn) src.toNat a.watch.toNat) s

/-- Announce pending is set on every record that a test picks. -/
def markAnnounce (p : AlertRecord → Bool) (s : State) : State :=
  { s with alerts := { s.alerts with queue := s.alerts.queue.map (fun r => if p r then { r with announce := true } else r) } }

/-- A peer has restarted (R110): it leaves every asserter map, and every record with active causes is announced again. -/
def peerRestartedAlerts (station : Nat) (s : State) : State :=
  announce (markAnnounce (fun r => !Causes.isEmpty r.causes) (forgetAsserter station s))

/-- The end of one of the alert unit's frames by send completion (true) or by discard (false) (R108). -/
def alertFrameEnded (q : QueuedFrame) (completed : Bool) (s : State) : State :=
  match q.frame.body with
  | .alert a =>
    if q.orphan then announce s
    else
      announce { s with alerts := { s.alerts with
        queue := s.alerts.queue.map (fun r =>
          if r.watch == a.watch.toNat then
            { r with frame := none, announce := if completed then r.changed else r.announce }
          else r)
        finals := (s.alerts.finals.filter (fun f => !(completed && a.cleared && f.watch == a.watch.toNat))).map (fun f =>
          if f.watch == a.watch.toNat then { f with frame := none } else f) } }
  | _ => s

/-- Every frame of the alert unit is flushed (R108): no item has a frame in queue any more. -/
def alertFramesFlushed (s : State) : State :=
  { s with alerts := { s.alerts with
      queue := s.alerts.queue.map (fun r => { r with frame := none })
      finals := s.alerts.finals.map (fun f => { f with frame := none }) } }

/-- The active alert count (R121). -/
def activeAlerts (s : State) : Nat := (s.alerts.queue.filter (fun r => !Causes.isEmpty r.causes)).length

/-- Expiry of the repeat timer (R109). -/
def alertRepeat (s : State) : State :=
  if isDue s.alerts.timer && s.isActive then
    announce (markAnnounce (fun r => !r.acknowledged)
      { s with alerts := { s.alerts with timer := some s.cfg.alertRepeat } })
  else s

/-- ALERT_REPEAT_EXPIRY (R109). -/
def execAlertRepeatExpiry (s : State) : Host.Outcome State Fault Refusal := .next (alertRepeat s)

end Sys2Proof.Machine
end

