-- ==== Sys2Proof/Machine/Watches.lean ====
section
/-! DEFINITION. The watch unit (chapter 5): evaluated value, zone function, moments, persistence, causes. -/

namespace Sys2Proof.Machine

/-- The keys a watch names as sources (R81). -/
def sourcesOf (c : WatchConfig) : List Nat :=
  match c.sourceB with
  | none => [Key.ix c.sourceA]
  | some b => [Key.ix c.sourceA, Key.ix b]

/-- The indices of the configured watches (R81). -/
def watchIndices (s : State) : List Nat := List.range s.cfg.watches.length

/-- The run-time fields at load (R83). -/
def WatchRun.initial : WatchRun where
  zone := .unknown
  candidate := none
  missed := 0
  last := none

/-- The zone function (R85). -/
def zoneOf (c : WatchConfig) (confirmed : Zone) (x : Int) : Zone :=
  let above : Bool := match c.high with
    | none => false
    | some h => decide (h ≤ x) || (confirmed == .above && decide (h - c.hysteresis ≤ x))
  let below : Bool := match c.low with
    | none => false
    | some l => decide (x ≤ l) || (confirmed == .below && decide (x ≤ l + c.hysteresis))
  if above then .above else if below then .below else .inside

/-- The alert zone of a crossing (R93). -/
def alarming : Crossing → Zone → Bool
  | .rising, .above => true
  | .falling, .below => true
  | .both, .above => true
  | .both, .below => true
  | _, _ => false

/-- Candidate and count after a qualifying evaluation with computed zone z, before confirmation (R91). -/
def candidateAfter (r : WatchRun) (z : Zone) : Option Candidate :=
  if z = r.zone then none
  else match r.candidate with
    | some c => if z = c.zone then some { c with count := c.count + 1 } else some { zone := z, count := 1 }
    | none => some { zone := z, count := 1 }

/-- The run-time fields after a qualifying evaluation of x (R84, R91, R92). -/
def evaluated (c : WatchConfig) (r : WatchRun) (x : Int) : WatchRun :=
  match candidateAfter r (zoneOf c r.zone x) with
  | some k =>
    if k.count = c.persistence then { r with zone := k.zone, candidate := none, last := some x }
    else { r with candidate := some k, last := some x }
  | none => { r with candidate := none, last := some x }

/-- What a confirmation tells the alert unit (R93, R94, R97). -/
def reportThreshold (w : Nat) (c : WatchConfig) (old new : Zone) (x : Int) (s : State) : State :=
  if old = new then s
  else match alarming c.crossing old, alarming c.crossing new with
    | _, true => raiseAlert w .threshold new (some x) s
    | true, false => deactivateAlert w .threshold new (some x) s
    | false, false => s

/-- The run-time fields of a watch replaced. -/
def setRun (w : Nat) (r : WatchRun) (s : State) : State := { s with watches := updateAt (fun _ => r) w s.watches }

/-- An evaluation of watch w: on a value when it qualifies (R91, R92), skipped otherwise (R90). -/
def evaluate (w : Nat) (c : WatchConfig) (r : WatchRun) (x : Option Int) (s : State) : State :=
  match x with
  | none => setRun w { r with missed := satInc r.missed } s
  | some x => reportThreshold w c r.zone (evaluated c r x).zone x (setRun w (evaluated c r x) s)

/-- The latest value of a key whose entry is FRESH (R87). -/
def freshValue (t : Map Entry) (k : Nat) : Option Int :=
  match t.find k with
  | some e => if e.state = .fresh then e.latest.map (fun l => (l.value.toNat : Int)) else none
  | none => none

/-- The value of a key's sweep part when it carries number n (R88). -/
def sweepValue (n : Count) (t : Map Entry) (k : Nat) : Option Int :=
  match t.find k with
  | some e => e.sweep.bind (fun p => if p.number = n then some (p.value.toNat : Int) else none)
  | none => none

/-- The evaluated value (R84): A, or A − B, when every source has a value. -/
def evaluatedValue (valueOf : Nat → Option Int) (c : WatchConfig) : Option Int :=
  match c.sourceB with
  | none => valueOf (Key.ix c.sourceA)
  | some b =>
    match valueOf (Key.ix c.sourceA), valueOf (Key.ix b) with
    | some x, some y => some (x - y)
    | _, _ => none

/-- Watch w is evaluated on the values a reading of the table gives, where it is configured. -/
def evaluateWatch (valueOf : Map Entry → Nat → Option Int) (w : Nat) (s : State) : State :=
  match s.cfg.watches[w]?, s.watches[w]? with
  | some c, some r => evaluate w c r (evaluatedValue (valueOf s.table) c) s
  | _, _ => s

/-- The watches that an update notice naming these keys evaluates (R86). -/
def onUpdateOf (cfg : Settings) (keys : List Nat) (w : Nat) : Bool :=
  match cfg.watches[w]? with
  | some c => c.moment == .onUpdate && (sourcesOf c).any (fun k => keys.contains k)
  | none => false

/-- An update notice (R86): every ON_UPDATE watch with a source among the keys, in ascending index. -/
def updateNotice (keys : List Nat) (s : State) : State :=
  ((watchIndices s).filter (onUpdateOf s.cfg keys)).foldl (fun s w => evaluateWatch freshValue w s) s

/-- The watches that a close notice evaluates (R88). -/
def onSweepOf (cfg : Settings) (w : Nat) : Bool :=
  match cfg.watches[w]? with
  | some c => c.moment == .onSweep
  | none => false

/-- A close notice "sweep n closed" (R88): every ON_SWEEP watch, in ascending index. -/
def closeNotice (n : Count) (s : State) : State :=
  ((watchIndices s).filter (onSweepOf s.cfg)).foldl (fun s w => evaluateWatch (sweepValue n) w s) s

/-- The entry of a key is marked unreachable. -/
def isMarked (t : Map Entry) (k : Nat) : Bool :=
  match t.find k with
  | some e => e.unreachable
  | none => false

/-- SOURCE_LOST is active exactly when the entry of a source is marked (R83). -/
def sourceLostActive (t : Map Entry) (c : WatchConfig) : Bool := (sourcesOf c).any (isMarked t)

/-- THRESHOLD is active exactly when the confirmed zone lies in the alert zone (R83). -/
def thresholdActive (c : WatchConfig) (r : WatchRun) : Bool := alarming c.crossing r.zone

/-- "k unreachable" at watch w (R95): SOURCE_LOST becomes active unless the other source is already marked. -/
def unreachableAt (k w : Nat) (s : State) : State :=
  match s.cfg.watches[w]?, s.watches[w]? with
  | some c, some r =>
    if (sourcesOf c).contains k && !((sourcesOf c).any (fun j => j != k && isMarked s.table j)) then
      raiseAlert w .sourceLost r.zone none s
    else s
  | _, _ => s

/-- The notice "k unreachable" (R95), to every watch in ascending index. -/
def unreachableNotice (k : Nat) (s : State) : State := (watchIndices s).foldl (fun s w => unreachableAt k w s) s

/-- "k reachable" at watch w (R96): SOURCE_LOST becomes inactive when no source is still marked. -/
def reachableAt (k w : Nat) (s : State) : State :=
  match s.cfg.watches[w]?, s.watches[w]? with
  | some c, some r =>
    if (sourcesOf c).contains k && !sourceLostActive s.table c then deactivateAlert w .sourceLost r.zone none s else s
  | _, _ => s

/-- The notice "k reachable" (R96), to every watch in ascending index. -/
def reachableNotice (k : Nat) (s : State) : State := (watchIndices s).foldl (fun s w => reachableAt k w s) s

end Sys2Proof.Machine
end

