-- ==== Sys2Proof/Machine/ValueTable.lean ====
section
/-! DEFINITION. The value table (chapter 4): updates in batches, eviction, unreachable marks, loss of a peer. The stale notices to
the requester are in Machine/Requester.lean. -/

namespace Sys2Proof.Machine

/-- The most entries the table holds (R64). -/
def tableCapacity : Nat := 48

/-- A pinned entry at load (R66). -/
def Entry.pinnedNew : Entry where
  pinned := true
  state := .empty
  unreachable := false
  latest := none
  sweep := none
  timer := none

/-- A cached entry at its creation, before the update that creates it is written (R67). -/
def Entry.cachedNew : Entry := { Entry.pinnedNew with pinned := false }

/-- The pinned keys of a configuration (R66): the own measurable channels and every source of a watch. -/
def pinnedKeys (cfg : Settings) : List Nat :=
  (setList cfg.measurable).map (keyIx cfg.own) ++ cfg.watches.flatMap sourcesOf

/-- The table at load (R66): one pinned entry for each key of the union. -/
def pinnedTable (cfg : Settings) : Map Entry := (pinnedKeys cfg).foldl (fun t k => Map.set t k Entry.pinnedNew) []

/-- The age of an entry's arrival stamp (R34). -/
def entryAge (now : Time) (e : Entry) : Nat :=
  match e.latest with
  | some l => ageOf now l.stamp
  | none => 0

/-- The entry of greatest age, the first in key order among equals (R71). -/
def oldest (now : Time) : List (Nat × Entry) → Option (Nat × Entry)
  | [] => none
  | p :: l =>
    match oldest now l with
    | none => some p
    | some q => if entryAge now p.2 < entryAge now q.2 then some q else some p

/-- The victim of an eviction (R71): the oldest cached entry, one outside the batch while there is one. -/
def victim (batch : List Nat) (now : Time) (t : Map Entry) : Option Nat :=
  let cached := t.filter (fun p => !p.2.pinned)
  let others := cached.filter (fun p => !batch.contains p.1)
  (oldest now (if others.isEmpty then cached else others)).map Prod.fst

/-- Room for a key's entry (R68 step 1): with no entry for it in a full table, one cached entry is evicted (R71). -/
def makeRoom (batch : List Nat) (k : Nat) (s : State) : State :=
  if (s.table.find k).isNone && decide (tableCapacity ≤ s.table.length) then
    match victim batch s.time s.table with
    | some v => bump .evictions { s with table := s.table.erase v }
    | none => s
  else s

/-- The sweep part after an update (R68 step 3, R70): written by cause SWEEP alone. -/
def sweepAfter (it : Item) (cause : Cause) (old : Option SweepPart) : Option SweepPart :=
  match cause with
  | .sweep n => some { value := it.value, flags := it.flags, number := n }
  | .measure .. => old
  | .trigger _ => old
  | .cadence _ => old

/-- An entry after an update (R68 steps 2 to 5). -/
def Entry.updated (freshness : Nat) (now : Time) (it : Item) (cause : Cause) (e : Entry) : Entry where
  pinned := e.pinned
  state := .fresh
  unreachable := false
  latest := some { value := it.value, flags := it.flags, cause := cause, stamp := now }
  sweep := sweepAfter it cause e.sweep
  timer := some freshness

/-- One update (R68). A full table without a cached entry takes no new key; R66 leaves eight places, so none such is reached
(log entry 18). -/
def applyUpdate (batch : List Nat) (station : Addr) (cause : Cause) (s : State) (it : Item) : State :=
  let k := keyIx station it.channel.toNat
  let s1 := makeRoom batch k s
  if (s1.table.find k).isNone && decide (tableCapacity ≤ s1.table.length) then s1
  else
    let e := Entry.updated s1.cfg.freshness s1.time it cause ((s1.table.find k).getD Entry.cachedNew)
    { s1 with table := s1.table.set k e }

/-- Items in ascending channel order; of two items of one channel the later stays later (R69, R182). -/
def inChannelOrder (items : List Item) : List Item :=
  (List.range 8).flatMap (fun c => items.filter (fun it => it.channel.toNat == c))

/-- The keys of a batch, in ascending channel order, each once. -/
def batchKeys (station : Addr) (items : List Item) : List Nat :=
  ((List.range 8).filter (fun c => items.any (fun it => it.channel.toNat == c))).map (keyIx station)

/-- One batch (R69): every update, then a reachability notice for each key whose mark was cleared, then one update notice. -/
def applyBatch (station : Addr) (cause : Cause) (items : List Item) (s : State) : State :=
  let keys := batchKeys station items
  let cleared := keys.filter (isMarked s.table)
  let s1 := (inChannelOrder items).foldl (applyUpdate keys station cause) s
  updateNotice keys (cleared.foldl (fun s k => reachableNotice k s) s1)

/-- One unreachable mark (R74). -/
def markUnreachable (s : State) (k : Nat) : State :=
  match s.table.find k with
  | some e =>
    if e.unreachable then s
    else unreachableNotice k { s with table := s.table.adjust k (fun e => { e with unreachable := true }) }
  | none => s

/-- An entry goes STALE (R72, R76). -/
def Entry.goStale (e : Entry) : Entry := { e with state := .stale, timer := none }

/-- The entries of a lost peer that are FRESH become STALE (R76). -/
def staleAll (station : Nat) (s : State) : State :=
  { s with table := s.table.mapRecords (fun k e => if ixStation k = station ∧ e.state = .fresh then Entry.goStale e else e) }

/-- The remote pinned keys whose entry passes a test, in key order (R73). -/
def watchedRemote (p : Nat → Entry → Bool) (s : State) : List Nat :=
  (s.table.filter (fun q => q.2.pinned && ixStation q.1 != s.own.toNat && p q.1 q.2)).map Prod.fst

end Sys2Proof.Machine
end

