-- ==== Sys2Proof/Machine/Image.lean ====
section
/-! DEFINITION. The configuration image (R166, R167, R82, R184): when the read ends, the checks in their order, and the settings that
a sound image codes. -/

namespace Sys2Proof.Machine

/-- The byte of an image at an offset. -/
def imageByte (b : List Byte) (o : Nat) : Nat := ((b[o]?).getD 0).toNat

/-- The signed word of an image at an offset (R181). -/
def imageSigned (b : List Byte) (o : Nat) : Int := (wordOf ((b[o]?).getD 0) ((b[o + 1]?).getD 0)).toInt

/-- Bit i of the byte of an image at an offset. -/
def imageBit (b : List Byte) (o i : Nat) : Bool := ((b[o]?).getD 0).getLsbD i

/-- The channel set of an image at an offset. -/
def imageSet (b : List Byte) (o : Nat) : ChannelSet := (b[o]?).getD 0

/-- The read ends once the announced length has been read (R166, R184). -/
def readEnds (b : List Byte) : Bool := 2 ≤ b.length && decide (imageByte b 1 ≤ b.length)

/-- The sweep period of a code, in milliseconds (Table 12-4). -/
def sweepPeriodMs : Nat → Nat
  | 1 => 250
  | 2 => 500
  | 3 => 1000
  | 4 => 2000
  | 5 => 5000
  | 6 => 10000
  | _ => 0

/-- The cadence timer's duration of a rate code (R41, Table 12-4). -/
def cadenceMs : Nat → Option Nat
  | 1 => some 2000
  | 2 => some 1000
  | 3 => some 500
  | 4 => some 200
  | 5 => some 100
  | _ => none

/-- The alert repeat interval of a code, in milliseconds (Table 12-4). -/
def alertRepeatMs : Nat → Nat
  | 0 => 500
  | 1 => 1000
  | 2 => 2000
  | _ => 5000

/-- Samples of a setting: 1 or 4. -/
def samplesOf (n : Nat) : Samples := if n = 4 then .four else .one

/-- The key a byte codes (R181). -/
def keyOfByte (n : Nat) : Key where
  station := BitVec.ofNat 5 (n / 8)
  channel := BitVec.ofNat 3 (n % 8)

/-- The offset of a watch's record (Table 12-5). -/
def watchOffset (w : Nat) : Nat := 29 + 10 * w

/-- The kind bit of a watch record: DIFFERENCE. -/
def isDifference (b : List Byte) (o : Nat) : Bool := imageBit b o 0

/-- Source B is given (R184): its station is not 0. -/
def givesB (b : List Byte) (o : Nat) : Bool := imageByte b (o + 2) / 8 != 0

/-- The fields of a watch record (Table 12-5). -/
def watchOf (b : List Byte) (w : Nat) : WatchConfig :=
  let o := watchOffset w
  let options := imageByte b o
  { kind := if isDifference b o then .difference else .level
    sourceA := keyOfByte (imageByte b (o + 1))
    sourceB := if givesB b o then some (keyOfByte (imageByte b (o + 2))) else none
    moment := if imageBit b o 1 then .onSweep else .onUpdate
    high := if imageBit b o 6 then some (imageSigned b (o + 3)) else none
    low := if imageBit b o 7 then some (imageSigned b (o + 5)) else none
    hysteresis := imageByte b (o + 7)
    crossing := if options / 4 % 4 = 0 then .rising else if options / 4 % 4 = 1 then .falling else .both
    persistence := imageByte b (o + 8)
    group := if imageByte b (o + 9) = 255 then none else some (BitVec.ofNat 3 (imageByte b (o + 9)))
    level := BitVec.ofNat 2 (options / 16) }

/-- The fields of a group byte (Table 12-4). -/
def groupOfByte (b : List Byte) (o : Nat) : GroupConfig where
  quorum := imageByte b o % 16
  lineA := imageBit b o 4
  lineB := imageBit b o 5

/-- The settings an image codes (Table 12-4). -/
def settingsOf (b : List Byte) : Settings where
  own := BitVec.ofNat 5 (imageByte b 2)
  measurable := imageSet b 3
  triggerSet := imageSet b 4
  triggerSamples := samplesOf (imageByte b 5)
  edge := if imageByte b 6 = 0 then .rising else if imageByte b 6 = 1 then .falling else .both
  debounce := imageByte b 7
  sweepSet := imageSet b 8
  sweepSamples := samplesOf (imageByte b 9)
  sweepPeriod := sweepPeriodMs (imageByte b 10)
  deadline := imageByte b 11 * 10
  cadenceSet := imageSet b 12
  cadenceSamples := samplesOf (imageByte b 13)
  cadence := cadenceMs (imageByte b 14)
  settle := imageByte b 15
  presence := BitVec.ofNat 2 (imageByte b 16)
  freshness := imageByte b 17 * 100
  reply := imageByte b 18 * 10
  alertRepeat := alertRepeatMs (imageByte b 19)
  groups := (List.range 8).map (fun g => groupOfByte b (20 + g))
  watches := (List.range (imageByte b 28)).map (watchOf b)
  signature := wordOf ((b[imageByte b 1 - 2]?).getD 0) ((b[imageByte b 1 - 1]?).getD 0)

/-- A setting is 1 or 4. -/
def oneOrFour (n : Nat) : Bool := n == 1 || n == 4

/-- A source's station lies in 1 to 30 (R82 check 2). -/
def sourceStationOk (n : Nat) : Bool := isStation (n / 8)

/-- A source at the own address names a measurable channel (R82 check 3). -/
def sourceOwnOk (b : List Byte) (n : Nat) : Bool := n / 8 != imageByte b 2 || setHas (imageSet b 3) (n % 8)

/-- The checks of one watch, each with the offset of its failing field, in the order of R82 and then R184's codes of byte +0. -/
def watchChecks (b : List Byte) (w : Nat) : List (Nat × Bool) :=
  let o := watchOffset w
  let high := imageBit b o 6
  let low := imageBit b o 7
  let options := imageByte b o
  [ (o + 2, isDifference b o == givesB b o),
    (o + 1, sourceStationOk (imageByte b (o + 1))),
    (o + 2, !givesB b o || sourceStationOk (imageByte b (o + 2))),
    (o + 1, sourceOwnOk b (imageByte b (o + 1))),
    (o + 2, !givesB b o || sourceOwnOk b (imageByte b (o + 2))),
    (o + 3, high || low),
    (o + 3, !high || thresholdOk (isDifference b o) (imageSigned b (o + 3))),
    (o + 5, !low || thresholdOk (isDifference b o) (imageSigned b (o + 5))),
    (o + 5, !(high && low) || decide (imageSigned b (o + 5) < imageSigned b (o + 3))),
    (o + 7, !(high && low) || decide ((imageByte b (o + 7) : Int) < imageSigned b (o + 3) - imageSigned b (o + 5))),
    (o + 8, decide (1 ≤ imageByte b (o + 8)) && decide (imageByte b (o + 8) ≤ 8)),
    (o + 9, decide (imageByte b (o + 9) ≤ 7) || imageByte b (o + 9) == 255),
    (o, options / 4 % 4 != 3 && options / 16 % 4 != 3) ]

/-- The number of distinct pinned keys an image names (R66, R167): the entries the table would hold at load. -/
def pinnedCount (b : List Byte) : Nat := (pinnedTable (settingsOf b)).length

/-- The checks of the fixed part, each with its field's offset, in offset order (Table 10-3, Table 12-4). -/
def fixedChecks (b : List Byte) : List (Nat × Bool) :=
  [ (2, isStation (imageByte b 2)),
    (4, subset (imageSet b 4) (imageSet b 3)),
    (5, oneOrFour (imageByte b 5)),
    (6, decide (imageByte b 6 ≤ 2)),
    (7, [0, 1, 4, 16].contains (imageByte b 7)),
    (8, subset (imageSet b 8) (imageSet b 3)),
    (9, oneOrFour (imageByte b 9)),
    (10, decide (imageByte b 10 ≤ 6)),
    (11, decide (5 ≤ imageByte b 11) && decide (imageByte b 11 ≤ 200) &&
      (sweepPeriodMs (imageByte b 10) == 0 || decide (imageByte b 11 * 10 < sweepPeriodMs (imageByte b 10)))),
    (12, subset (imageSet b 12) (imageSet b 3)),
    (13, oneOrFour (imageByte b 13)),
    (14, decide (imageByte b 14 ≤ 5)),
    (15, decide (4 ≤ imageByte b 15) && decide (imageByte b 15 ≤ 64)),
    (16, decide (imageByte b 16 ≤ 3)),
    (17, decide (1 ≤ imageByte b 17)),
    (18, decide (2 ≤ imageByte b 18) && decide (imageByte b 18 ≤ 50)),
    (19, decide (imageByte b 19 ≤ 3)) ] ++
  (List.range 8).map (fun g => (20 + g, decide (imageByte b (20 + g) % 16 ≤ 8) && decide (imageByte b (20 + g) < 64))) ++
  [ (28, decide (imageByte b 28 ≤ 16) && imageByte b 28 == (imageByte b 1 - 31) / 10) ]

/-- The checks of group 3 of R167, in order: the fixed part, the watches, the union of pinned keys. -/
def rangeChecks (b : List Byte) : List (Nat × Bool) :=
  fixedChecks b ++ (List.range (imageByte b 28)).flatMap (watchChecks b) ++ [(28, decide (pinnedCount b ≤ 40))]

/-- The announced length is one the format allows (R184): 31 + 10w for some w from 0 to 16. -/
def lengthAllowed (n : Nat) : Bool := 31 ≤ n && n ≤ 191 && (n - 31) % 10 == 0

/-- The first failing check of an image read whole, or none (R167, R184). -/
def imageFault (b : List Byte) : Option FaultCode :=
  if !(imageByte b 0 == 0xA7 && lengthAllowed (imageByte b 1)) then some .imageAbsent
  else if checkValue (b.take (imageByte b 1 - 2)) != (settingsOf b).signature then some .imageCheck
  else ((rangeChecks b).find? (fun c => !c.2)).map (fun c => .imageRange c.1)

end Sys2Proof.Machine
end

