-- ==== Sys2Proof/Machine/Requester.lean ====
section
/-! DEFINITION. The requester (chapter 7) and the value table's stale notices to it (R72, R73, R76). -/

namespace Sys2Proof.Machine

/-- The roster holds the station LOST. -/
def holdsLost (s : State) (station : Nat) : Bool :=
  match s.roster.peers.find station with
  | some p => p.state == .lost
  | none => false

/-- The hold-off of a key given up on, in milliseconds (R123). -/
def holdOffMs : Nat := 5000

/-- The back-off of a refused entry, in milliseconds (R129). -/
def backOffMs : Nat := 50

/-- The keys of a set of channels of one station, in ascending channel order. -/
def keysOf (station : Nat) (channels : ChannelSet) : List Nat := (setList channels).map (fun c => station * 8 + c)

/-- Giving up on a set of keys of one station (R132 steps 2 and 3): the marks, then the hold-offs. -/
def giveUp (station : Nat) (channels : ChannelSet) (s : State) : State :=
  let keys := keysOf station channels
  let s1 := keys.foldl markUnreachable s
  { s1 with requester := { s1.requester with
      holdOffs := keys.foldl (fun h k => Map.set h k holdOffMs) s1.requester.holdOffs } }

/-- The pending table holds an entry for the station whose channel set contains the channel. -/
def asksFor (r : Requester) (station c : Nat) : Bool :=
  r.pending.any (fun e => e.target.toNat == station && setHas e.channels c)

/-- A key joins the wanted set of its station, unless an entry already asks for it (R122 cases 3 and 4). -/
def wantKey (s : State) (k : Nat) : State :=
  if asksFor s.requester (ixStation k) (ixChannel k) then s
  else
    let w := s.requester.wanted
    { s with requester := { s.requester with
        wanted := Map.set w (ixStation k) (setInsert ((w.find (ixStation k)).getD 0) (ixChannel k)) } }

/-- A key is taken, by cases 2 to 4 of R122. -/
def takeKey (s : State) (k : Nat) : State :=
  if holdsLost s (ixStation k) then giveUp (ixStation k) (setInsert 0 (ixChannel k)) s else wantKey s k

/-- A stale notice (R122): ignored while the key's hold-off runs. -/
def staleNotice (s : State) (k : Nat) : State :=
  if (s.requester.holdOffs.find k).isSome then s else takeKey s k

/-- A stale notice of a loss that the requester has not taken yet (R122): its channel is put in the wanted set, from where the loss
gives it up (log entry 25). -/
def staleNoticeBeforeLoss (s : State) (k : Nat) : State :=
  if (s.requester.holdOffs.find k).isSome then s else wantKey s k

/-- The stations that are candidates (R126), lowest first. -/
def candidates (s : State) : List Nat :=
  (s.requester.wanted.filter (fun p => p.2 != 0 && !s.requester.pending.any (fun e => e.target.toNat == p.1) &&
    !holdsLost s p.1)).map Prod.fst

/-- The station served next (R126): the lowest candidate above the one served last, or else the lowest. -/
def nextTarget (s : State) : Option Nat :=
  let above := match s.requester.served with
    | some a => (candidates s).filter (fun c => decide (a.toNat < c))
    | none => []
  match above with
  | c :: _ => some c
  | [] => (candidates s).head?

/-- The tag counter's advance (R125): to the next tag that no entry holds. -/
def nextTag (used : List Tag) : Nat → Tag → Tag
  | 0, t => t + 1
  | n + 1, t => if used.contains (t + 1) then nextTag used n (t + 1) else t + 1

/-- The most entries of the pending table (R124). -/
def pendingCapacity : Nat := 4

/-- The new entry for a target (R126). -/
def newEntry (s : State) (target : Nat) : PendingEntry where
  target := BitVec.ofNat 5 target
  tag := nextTag (s.requester.pending.map PendingEntry.tag) pendingCapacity s.requester.tag
  channels := (s.requester.wanted.find target).getD 0
  attempts := 1
  stage := .due
  duplicateUsed := false

/-- One entry is issued, where the table has room and there is a candidate (R126). -/
def issueOne (s : State) : State :=
  if s.isActive && decide (s.requester.pending.length < pendingCapacity) then
    match nextTarget s with
    | none => s
    | some a =>
      { s with requester := { s.requester with
          tag := (newEntry s a).tag
          pending := s.requester.pending ++ [newEntry s a]
          wanted := s.requester.wanted.erase a
          served := some (BitVec.ofNat 5 a) } }
  else s

/-- The entry's send is due (R124). -/
def isDueEntry (e : PendingEntry) : Bool := e.stage == .due

/-- The MEASURE of an entry (R127): its tag, samples 1, its channels. -/
def measureOf (e : PendingEntry) : Body := .measure e.tag 1 ((setList e.channels).map byteOf)

/-- With the quota free, the MEASURE of the entry whose send became due earliest enters the queue (R127). -/
def sendDue (s : State) : State :=
  if s.isActive && quotaFree .requester s then
    match s.requester.pending.find? isDueEntry with
    | none => s
    | some e =>
      enqueue e.target (measureOf e)
        { s with requester := { s.requester with
            pending := updateFirst isDueEntry (fun e => { e with stage := .queued }) s.requester.pending } }
  else s

/-- The requester looks for candidates until the table is full or none remains (R126), then for a due send (R127). -/
def pump (s : State) : State := sendDue (issueOne (issueOne (issueOne (issueOne s))))

/-- An entry leaves the pending table. -/
def removeEntry (tag : Tag) (s : State) : State :=
  { s with requester := { s.requester with pending := s.requester.pending.filter (fun e => e.tag != tag) } }

/-- An entry is given up (R132). -/
def giveUpEntry (e : PendingEntry) (s : State) : State := giveUp e.target.toNat e.channels (removeEntry e.tag s)

/-- The most attempts of an entry (R131). -/
def maxAttempts : Nat := 3

/-- An entry takes its next attempt, or is given up after its third (R131). Its send becomes due last. -/
def nextAttempt (e : PendingEntry) (s : State) : State :=
  if maxAttempts ≤ e.attempts then giveUpEntry e s
  else
    let s1 := removeEntry e.tag s
    { s1 with requester := { s1.requester with
        pending := s1.requester.pending ++ [{ e with attempts := e.attempts + 1, stage := .due, duplicateUsed := false }] } }

/-- The entry with a tag whose stage passes a test. -/
def entryOf (tag : Tag) (p : Stage → Bool) (s : State) : Option PendingEntry :=
  s.requester.pending.find? (fun e => e.tag == tag && p e.stage)

/-- An entry's record changed in place. -/
def setEntry (tag : Tag) (f : PendingEntry → PendingEntry) (s : State) : State :=
  { s with requester := { s.requester with pending := updateFirst (fun e => e.tag == tag) f s.requester.pending } }

/-- The reply timer of an entry that is SENT, or the back-off timer of one that is BACKING_OFF, has run down (R130, R131). -/
def attemptWhen (tag : Tag) (stage : Stage) (s : State) : State :=
  match entryOf tag (fun st => st == stage) s with
  | some e => pump (nextAttempt e s)
  | none => s

/-- The end of a MEASURE by send completion (true) or by discard (false) (R127). -/
def measureEnded (tag : Tag) (completed : Bool) (s : State) : State :=
  match entryOf tag (fun st => st == .queued) s with
  | some e =>
    if completed then pump (setEntry tag (fun e => { e with stage := .sent s.cfg.reply }) s)
    else pump (nextAttempt e s)
  | none => pump s

/-- What a reason code asks for (R129, R183): BAD_CHANNEL and BAD_REQUEST are final; QUEUE_FULL and BUSY back off; codes 5 to 7
match no reason (R182). -/
def takeRefusal (e : PendingEntry) (reason : BitVec 3) (s : State) : State :=
  match reason.toNat, e.stage with
  | 2, _ => giveUpEntry e s
  | 3, _ => giveUpEntry e s
  | 0, .sent _ => setEntry e.tag (fun e => { e with stage := .backingOff backOffMs }) s
  | 4, .sent _ => setEntry e.tag (fun e => { e with stage := .backingOff backOffMs }) s
  | 1, .sent _ =>
    if e.duplicateUsed then s
    else setEntry e.tag (fun e => { e with stage := .sent s.cfg.reply, duplicateUsed := true }) s
  | _, _ => s

/-- A received REFUSE (R129). -/
def takeRefuse (src : Addr) (kind : RefusedKind) (reason : BitVec 3) (tag : Tag) (s : State) : State :=
  match kind with
  | .query => s
  | .measure =>
    match s.requester.pending.find? (fun e => e.tag == tag && e.target == src) with
    | some e => pump (takeRefusal e reason s)
    | none => s

/-- The entry that a RESULT answers leaves the table (R128). -/
def answered (src : Addr) (cause : Cause) (s : State) : State :=
  match cause with
  | .measure requester tag =>
    if requester.toNat = s.own.toNat then
      { s with requester := { s.requester with
          pending := s.requester.pending.filter (fun e => !(e.tag == tag && e.target == src)) } }
    else s
  | .sweep _ => s
  | .trigger _ => s
  | .cadence _ => s

/-- A received RESULT at the requester (R128), which also ends the hold-off of each key it carries (R123). -/
def requesterResult (src : Addr) (cause : Cause) (items : List Item) (s : State) : State :=
  let s1 := answered src cause s
  pump { s1 with requester := { s1.requester with
    holdOffs := (batchKeys src items).foldl (fun h k => Map.erase h k) s1.requester.holdOffs } }

/-- Several notices of one event: the requester looks for candidates after each of them, or only when it has taken them all; the
rules (R122, R126, R135) do not say which (log entry 10). -/
def takeNotices (take : State → Nat → State) (keys : List Nat) (s : State) : State :=
  let s1 := { s with draws := s.draws + 1 }
  settle s.draws (pump (keys.foldl take s1)) [pump (keys.foldl (fun s k => pump (take s k)) s1)]

/-- "s PRESENT after LOST" (R123, R139): the hold-offs of the station's keys end and the keys are taken again. The rules give the keys
no order, so it is free (log entry 28). -/
def presentAfterLost (station : Nat) (s : State) : State :=
  let keys := (s.requester.holdOffs.keep (fun k => ixStation k == station)).keys
  takeNotices takeKey (freeOrder s.draws keys)
    { s with
      draws := s.draws + keys.length
      requester := { s.requester with holdOffs := s.requester.holdOffs.keep (fun k => ixStation k != station) } }

/-- "s LOST" at the requester (R133): in ACTIVE, the entry's channels and the wanted set are given up together. -/
def requesterLost (station : Nat) (s : State) : State :=
  if s.isActive then
    let asked := s.requester.pending.filter (fun e => e.target.toNat == station)
    let channels := asked.foldl (fun c e => c ||| e.channels) ((s.requester.wanted.find station).getD 0)
    pump (giveUp station channels
      { s with requester := { s.requester with
          pending := s.requester.pending.filter (fun e => e.target.toNat != station)
          wanted := s.requester.wanted.erase station } })
  else s

/-- "s restarted" at the requester (R134): an entry that is SENT or BACKING_OFF takes its next attempt at once. -/
def requesterRestarted (station : Nat) (s : State) : State :=
  match s.requester.pending.find? (fun e => e.target.toNat == station) with
  | some e =>
    match e.stage with
    | .due => s
    | .queued => s
    | .sent _ => pump (nextAttempt e s)
    | .backingOff _ => pump (nextAttempt e s)
  | none => s

/-- The requester is emptied (R135); the tag counter and the address served last keep their values. -/
def emptyRequester (s : State) : State :=
  { s with requester := { s.requester with wanted := [], holdOffs := [], pending := [] } }

/-- The value table's announcement at entry into ACTIVE (R73): every remote pinned entry that is EMPTY or STALE, in key order. -/
def announceStale (s : State) : State :=
  takeNotices staleNotice (watchedRemote (fun _ e => e.state != .fresh) s) s

/-- "s LOST" at the value table (R76): FRESH entries become STALE, and in ACTIVE the remote pinned ones among them are announced, in
key order, to the requester, which has taken the loss or not. -/
def tableLost (notice : State → Nat → State) (station : Nat) (s : State) : State :=
  let keys := watchedRemote (fun k e => ixStation k == station && e.state == .fresh) s
  let s1 := staleAll station s
  if s.isActive then pump (keys.foldl notice s1) else s1

/-- Expiry of an entry's freshness timer (R72). -/
def freshnessExpiry (k : Nat) (s : State) : State :=
  match s.table.find k with
  | some e =>
    if isDue e.timer && s.works then
      let s1 := { s with table := s.table.adjust k Entry.goStale }
      if e.pinned && ixStation k != s.own.toNat && s.isActive then pump (staleNotice s1 k) else s1
    else s
  | none => s

/-- Expiry of a key's hold-off (R123). -/
def holdOffExpiry (k : Nat) (s : State) : State :=
  if s.requester.holdOffs.find k == some 0 && s.isActive then
    pump (takeKey { s with requester := { s.requester with holdOffs := s.requester.holdOffs.erase k } } k)
  else s

/-- FRESHNESS_EXPIRY (R72). -/
def execFreshnessExpiry (k : Key) (s : State) : Host.Outcome State Fault Refusal := .next (freshnessExpiry (Key.ix k) s)

/-- REPLY_TIMER_EXPIRY (R131). -/
def execReplyTimerExpiry (tag : Tag) (s : State) : Host.Outcome State Fault Refusal := .next (attemptWhen tag (.sent 0) s)

/-- BACK_OFF_EXPIRY (R130). -/
def execBackOffExpiry (tag : Tag) (s : State) : Host.Outcome State Fault Refusal := .next (attemptWhen tag (.backingOff 0) s)

/-- HOLD_OFF_EXPIRY (R123). -/
def execHoldOffExpiry (k : Key) (s : State) : Host.Outcome State Fault Refusal := .next (holdOffExpiry (Key.ix k) s)

end Sys2Proof.Machine
end

