-- ==== Sys2Proof/Machine/Converter.lean ====
section
/-! DEFINITION. The converter's places and admissions (chapter 1): offers, the choice of the next job, the result hold, refusals,
and the refusal list they go to (R157). The end of a job is in Machine/Jobs.lean. -/

namespace Sys2Proof.Machine

/-- Converter states (R13). -/
inductive ConverterState where
  | idle
  | busy
  | preempted
  | held
  deriving DecidableEq, Repr

/-- The class of a cause (R4, R23). -/
def Cause.cls : Cause → JobClass
  | .sweep _ => .sweep
  | .measure _ _ => .peer
  | .trigger _ => .trigger
  | .cadence _ => .cadence

/-- The class of a job (R4). -/
def Job.cls (j : Job) : JobClass := Cause.cls j.cause

/-- The converter's state (R13). -/
def Converter.state (c : Converter) : ConverterState :=
  if c.hold.isSome then .held
  else if c.suspended.isSome then .preempted
  else if c.running.isSome then .busy
  else .idle

/-- A new job (R4). -/
def newJob (channels : ChannelSet) (samples : Samples) (cause : Cause) : Job where
  channels := channels
  samples := samples
  cause := cause
  progress := []

/-- The pending job of the highest class leaves its place and starts (R14, R16). -/
def Converter.startNext (c : Converter) : Converter :=
  match c.trigger with
  | some j => { c with trigger := none, running := some j }
  | none =>
    match c.sweep with
    | some j => { c with sweep := none, running := some j }
    | none =>
      match c.peers with
      | j :: js => { c with peers := js, running := some j }
      | [] =>
        match c.cadence with
        | some j => { c with cadence := none, running := some j }
        | none => c

/-- What the converter does when nothing runs and the hold is empty: the suspended job resumes (R15), or else the next pending job
starts (R14). -/
def Converter.proceed (c : Converter) : Converter :=
  if c.running.isSome || c.hold.isSome then c
  else match c.suspended with
    | some j => { c with suspended := none, running := some j }
    | none => c.startNext

/-- A change of the converter's places, after which it proceeds (R14, R15). -/
def changeConverter (f : Converter → Converter) (s : State) : State :=
  { s with converter := Converter.proceed (f s.converter) }

/-- The TRIGGER work that makes a trigger offer an overrun (R7): pending, running or held. -/
def Converter.triggerTaken (c : Converter) : Bool :=
  c.trigger.isSome ||
  (match c.running with
    | some j => Job.cls j == .trigger
    | none => false) ||
  (match c.hold with
    | some r => Cause.cls r.cause == .trigger
    | none => false)

/-- A trigger offer with a trigger count (R7). -/
def offerTrigger (n : Count) (s : State) : State :=
  if s.works then
    if Converter.triggerTaken s.converter then bump .triggerOverruns s
    else changeConverter (fun c => { c with trigger := some (newJob s.cfg.triggerSet s.cfg.triggerSamples (.trigger n)) }) s
  else s

/-- A sweep offer (R8): it fills the SWEEP slot or supersedes the older pending job. -/
def offerSweep (n : Count) (s : State) : State :=
  let job := newJob s.cfg.sweepSet s.cfg.sweepSamples (.sweep n)
  changeConverter (fun c => { c with sweep := some job })
    (if s.converter.sweep.isSome then bump .sweepsSuperseded s else s)

/-- A cadence offer (R12). -/
def offerCadence (n : Count) (s : State) : State :=
  if s.works && s.cfg.cadenceSet != 0 then
    if s.converter.cadence.isSome then bump .cadenceSkips s
    else changeConverter (fun c => { c with cadence := some (newJob s.cfg.cadenceSet s.cfg.cadenceSamples (.cadence n)) }) s
  else s

/-- Refusal reasons and their codes (R183). -/
inductive Reason where
  | queueFull
  | duplicate
  | badChannel
  | badRequest
  | busy
  deriving DecidableEq, Repr

/-- The code of a reason (R183). -/
def Reason.code : Reason → BitVec 3
  | .queueFull => 0
  | .duplicate => 1
  | .badChannel => 2
  | .badRequest => 3
  | .busy => 4

/-- The most refusals the list holds (R157). -/
def refusalCapacity : Nat := 4

/-- With the REFUSE quota free, the head of the refusal list becomes a REFUSE frame (R157). -/
def pumpRefusals (s : State) : State :=
  if quotaFree .refusalList s then
    match s.bus.refusals with
    | r :: rs => enqueue r.dst (.refuse r.kind r.reason r.tag) { s with bus := { s.bus with refusals := rs } }
    | [] => s
  else s

/-- A refusal is handed to the refusal list (R157). -/
def refuse (dst : Addr) (kind : RefusedKind) (tag : Tag) (reason : Reason) (s : State) : State :=
  if refusalCapacity ≤ s.bus.refusals.length then bump .refusalsDropped s
  else pumpRefusals { s with bus := { s.bus with
    refusals := s.bus.refusals ++ [{ dst := dst, kind := kind, tag := tag, reason := Reason.code reason }] } }

/-- The most jobs the PEER queue holds (R6). -/
def peerCapacity : Nat := 6

/-- The cause of the PEER job of a requester and tag (R4). -/
def peerCause (src : Addr) (tag : Tag) : Cause := .measure (src.setWidth 8) tag

/-- A PEER job with this requester and tag is pending, running or suspended (R9 check 3). -/
def Converter.holdsPeer (c : Converter) (src : Addr) (tag : Tag) : Bool :=
  (c.peers ++ c.running.toList ++ c.suspended.toList).any (fun j => j.cause == peerCause src tag)

/-- Why a MEASURE is refused, by the first check that fails (R9). -/
def measureRefusal (s : State) (src : Addr) (tag : Tag) (samples : Byte) (channels : List Byte) : Option Reason :=
  if measureBadRequest samples channels then some .badRequest
  else if measureBadChannel s.cfg.measurable channels then some .badChannel
  else if Converter.holdsPeer s.converter src tag then some .duplicate
  else if peerCapacity ≤ s.converter.peers.length then some .queueFull
  else none

/-- The PEER job of a MEASURE (R9 check 5). -/
def peerJob (src : Addr) (tag : Tag) (samples : Byte) (channels : List Byte) : Job :=
  newJob (channelsOf channels) (if samples = 4 then .four else .one) (peerCause src tag)

/-- A MEASURE dispatched to the converter (R9, R10, R11). -/
def takeMeasure (src : Addr) (tag : Tag) (samples : Byte) (channels : List Byte) (s : State) : State :=
  if s.isActive then
    match measureRefusal s src tag samples channels with
    | some reason => refuse src .measure tag reason (bump .measureRefused s)
    | none => changeConverter (fun c => { c with peers := c.peers ++ [peerJob src tag samples channels] }) s
  else bump .requestsIgnored s

/-- One of the converter's RESULT frames has left the transmit queue (R25): the held RESULT enters it, and the converter goes on. -/
def releaseHold (s : State) : State :=
  match s.converter.hold with
  | some r =>
    if s.isActive && quotaFree .converter s then
      changeConverter (fun c => { c with hold := none }) (enqueue allStations (.result r.cause r.items) s)
    else s
  | none => s

/-- The purge of leaving ACTIVE (R28): PEER queue, SWEEP slot and result hold are emptied, and the converter goes on with what
remains. -/
def purgeConverter (s : State) : State := changeConverter (fun c => { c with peers := [], sweep := none, hold := none }) s

end Sys2Proof.Machine
end

