-- ==== Sys2Proof/Machine/Sweeps.lean ====
section
/-! DEFINITION. The sweep unit (chapter 3): serial order, acceptance, calls, tallies, reports, closing. -/

namespace Sys2Proof.Machine

/-- Sweep number a is newer than b (R43). -/
def newer (a b : Count) : Bool := 1 ≤ (a - b).toNat && (a - b).toNat ≤ 32767

/-- The number is accepted against L (R46): L is none, or the number is newer than L. -/
def acceptable (n : Count) : Option Count → Bool
  | none => true
  | some l => newer n l

/-- A tally closes (R61): its state, its deadline timer, the close notice. -/
def closeTally (t : Tally) (state : TallyState) (s : State) : State :=
  closeNotice t.number { s with sweeps := { s.sweeps with current := some { t with state := state }, deadline := none } }

/-- The CURRENT tally while it is OPEN. -/
def openTally (s : State) : Option Tally :=
  match s.sweeps.current with
  | some t => if t.state = .opened then some t else none
  | none => none

/-- A peer that a tally opened now expects (R55): PRESENT, with the participation flag set by its last PRESENCE. -/
def expectedPeer (p : Peer) : Bool :=
  p.state == .present && (match p.info with
    | some i => i.participation
    | none => false)

/-- The expected set of a tally opened now (R55). -/
def expectedNow (s : State) : StationSet :=
  let peers := setOf 32 ((s.roster.peers.filter (fun q => expectedPeer q.2)).map Prod.fst)
  if s.isActive && s.cfg.sweepSet != 0 then setInsert peers s.own.toNat else peers

/-- A new CURRENT tally opens (R50 steps 5 and 6, R55); it closes COMPLETE at once when nobody is expected. -/
def openNew (n : Count) (s : State) : State :=
  let t : Tally := { number := n, state := .opened, expected := expectedNow s, reported := 0, extra := 0 }
  let s1 := { s with sweeps := { s.sweeps with
    previous := s.sweeps.current, current := some t, deadline := some s.cfg.deadline } }
  if t.expected = 0 then closeTally t .complete s1 else s1

/-- A frame of the sweep unit. -/
def isSweepFrame (q : QueuedFrame) : Bool := QueuedFrame.isOf .sweepUnit q

/-- The own SWEEP frame is withdrawn (R50 step 3, R156): removed at once, or marked while it is on the line. -/
def withdrawSweep (s : State) : State :=
  let left := s.bus.queue.filter (fun q => !(isSweepFrame q && !q.onLine))
  { s with bus := { s.bus with queue := left.map (fun q => if isSweepFrame q then { q with withdrawn := true } else q) } }

/-- The call timer's duration (R51): the sweep period plus 4 ms for each step of the own address. -/
def callDuration (cfg : Settings) : Nat := cfg.sweepPeriod + cfg.own.toNat * 4

/-- Steps 1 and 2 of R50: L, and the call timer restarted if it runs. -/
def noteAccepted (n : Count) (s : State) : State :=
  { s with sweeps := { s.sweeps with last := some n, call := s.sweeps.call.map (fun _ => callDuration s.cfg) } }

/-- Step 4 of R50: an OPEN CURRENT tally closes SUPERSEDED. -/
def supersede (s : State) : State :=
  match openTally s with
  | some t => closeTally t .superseded s
  | none => s

/-- Step 7 of R50: the station's own job. -/
def offerOwnSweep (n : Count) (s : State) : State :=
  if s.isActive && s.cfg.sweepSet != 0 then offerSweep n s else s

/-- Acceptance of sweep n (R50), its steps in order. -/
def acceptSweep (n : Count) (s : State) : State :=
  offerOwnSweep n (openNew n (supersede (withdrawSweep (noteAccepted n s))))

/-- A received SWEEP frame (R46). -/
def takeSweep (n : Count) (s : State) : State :=
  if acceptable n s.sweeps.last then acceptSweep n s else bump .staleSweeps s

/-- A report applied to the OPEN CURRENT tally (R57). -/
def applyReport (station : Nat) (t : Tally) (s : State) : State :=
  if setHas t.expected station then
    let t' := { t with reported := setInsert t.reported station }
    if t'.reported = t'.expected then closeTally t' .complete s
    else { s with sweeps := { s.sweeps with current := some t' } }
  else bump .extraReports { s with sweeps := { s.sweeps with current := some { t with extra := satInc t.extra } } }

/-- The report "station s reported sweep k" (R56). -/
def takeReport (station : Nat) (k : Count) (s : State) : State :=
  match openTally s with
  | some t => if t.number = k then applyReport station t s else bump .lateResults s
  | none => bump .lateResults s

/-- A received RESULT at the sweep unit (R48): acceptance of a newer number, then the report. -/
def sweepResult (src : Addr) (cause : Cause) (s : State) : State :=
  match cause with
  | .sweep k => takeReport src.toNat k (if acceptable k s.sweeps.last then acceptSweep k s else s)
  | .measure .. => s
  | .trigger _ => s
  | .cadence _ => s

/-- "s LOST" at the sweep unit (R60). -/
def sweepLost (station : Nat) (s : State) : State :=
  match openTally s with
  | some t =>
    if setHas t.expected station then
      let t' := { t with expected := setErase t.expected station, reported := setErase t.reported station }
      if t'.reported = t'.expected then closeTally t' .complete s
      else { s with sweeps := { s.sweeps with current := some t' } }
    else s
  | none => s

/-- The number a call carries (R52): the successor of L, or 0. -/
def callNumber : Option Count → Count
  | none => 0
  | some l => l + 1

/-- Expiry of the call timer (R52). -/
def callExpiry (s : State) : State :=
  if isDue s.sweeps.call && s.isActive then
    let s1 := { s with sweeps := { s.sweeps with call := some (callDuration s.cfg) } }
    if quotaFree .sweepUnit s1 then enqueue allStations (.sweep (callNumber s.sweeps.last)) s1 else s1
  else s

/-- Expiry of the deadline timer (R58). -/
def deadlineExpiry (s : State) : State :=
  if isDue s.sweeps.deadline && s.works then
    match openTally s with
    | some t => closeTally t .incomplete s
    | none => s
  else s

/-- CALL_TIMER_EXPIRY (R52). -/
def execCallTimerExpiry (s : State) : Host.Outcome State Fault Refusal := .next (callExpiry s)

/-- SWEEP_DEADLINE_EXPIRY (R58). -/
def execSweepDeadlineExpiry (s : State) : Host.Outcome State Fault Refusal := .next (deadlineExpiry s)

end Sys2Proof.Machine
end

