-- ==== Sys2Proof/Machine/Jobs.lean ====
section
/-! DEFINITION. A running job (R16 to R25): channel completion, preemption, the end of a job and its publication. -/

namespace Sys2Proof.Machine

/-- The samples a channel of the job is converted with, of the counts given in order (R1). -/
def samplesTaken (n : Samples) (s0 s1 s2 s3 : Value) : List Value :=
  match n with
  | .one => [s0]
  | .four => [s0, s1, s2, s3]

/-- The value of a channel (R2). -/
def channelValue (n : Samples) (s0 s1 s2 s3 : Value) : Value :=
  match n with
  | .one => s0
  | .four => averageOf s0 s1 s2 s3

/-- The channels of a job's progress list. -/
def Job.completed (j : Job) : ChannelSet := setOf 8 (j.progress.map (fun it => it.channel.toNat))

/-- The job's next channel (R4): the lowest of its set not yet in the progress list. -/
def Job.nextChannel (j : Job) : Option Nat := (setList (j.channels &&& ~~~ Job.completed j)).head?

/-- The job with one channel more in its progress list (R17). -/
def Job.complete (j : Job) (s0 s1 s2 s3 : Value) : Job :=
  match Job.nextChannel j with
  | some c =>
    { j with progress := j.progress ++
        [{ channel := BitVec.ofNat 3 c, value := channelValue j.samples s0 s1 s2 s3,
           flags := qualityOf (samplesTaken j.samples s0 s1 s2 s3) }] }
  | none => j

/-- The RESULT of a finished job goes where the station state and the quota send it (R23, R24). -/
def publish (r : Finished) (s : State) : State :=
  if s.isActive then
    if quotaFree .converter s then enqueue allStations (.result r.cause r.items) s
    else { s with converter := { s.converter with hold := some r } }
  else s

/-- The report of a finished SWEEP job (R22). -/
def selfReport (cause : Cause) (s : State) : State :=
  match cause with
  | .sweep n => takeReport s.own.toNat n s
  | .measure .. => s
  | .trigger _ => s
  | .cadence _ => s

/-- Job done (R21, R22, R23): value-table updates, sweep report, RESULT, and then what comes next (R14, R15). -/
def jobDone (j : Job) (s : State) : State :=
  let s1 := { s with converter := { s.converter with running := none } }
  let s2 := selfReport j.cause (applyBatch s.own j.cause j.progress s1)
  changeConverter id (publish { cause := j.cause, items := j.progress } s2)

/-- The running job is suspended and the pending TRIGGER job starts (R18). -/
def preempt (j t : Job) (s : State) : State :=
  { s with converter := { s.converter with suspended := some j, running := some t, trigger := none } }

/-- Channel completion of the running job (R17, R18). -/
def channelCompletion (s0 s1 s2 s3 : Value) (s : State) : State :=
  match s.converter.running with
  | none => s
  | some j =>
    let j' := Job.complete j s0 s1 s2 s3
    match Job.nextChannel j' with
    | none => jobDone j' s
    | some _ =>
      match s.converter.trigger with
      | some t =>
        if Job.cls j = .trigger then { s with converter := { s.converter with running := some j' } } else preempt j' t s
      | none => { s with converter := { s.converter with running := some j' } }

/-- CHANNEL_COMPLETION (R17). -/
def execChannelCompletion (s0 s1 s2 s3 : Value) (s : State) : Host.Outcome State Fault Refusal :=
  .next (channelCompletion s0 s1 s2 s3 s)

end Sys2Proof.Machine
end

