-- ==== Sys2Proof/Machine/Roster.lean ====
section
/-! DEFINITION. The roster (chapter 8): frames heard, restarts, silence, loss, and the station's own PRESENCE. -/

namespace Sys2Proof.Machine

/-- The content of a PRESENCE formed now (R143). -/
def formPresence (s : State) : Presence where
  active := s.isActive
  participation := s.cfg.sweepSet != 0
  period := s.cfg.presence
  signature := s.cfg.signature
  lastSweep := s.sweeps.last
  alerts := byteOf (activeAlerts s)

/-- A frame of the roster. -/
def isPresenceFrame (q : QueuedFrame) : Bool := QueuedFrame.isOf .roster q

/-- The queued PRESENCE is replaced in place by one formed now (R144, R151): it keeps its position and its attempt count. -/
def replacePresence (s : State) : State :=
  let body := Body.presence (formPresence s)
  let put := fun q : QueuedFrame => { q with frame := { q.frame with body := body } }
  { s with bus := { s.bus with queue := updateFirst isPresenceFrame put s.bus.queue } }

/-- A PRESENCE is to be sent (R144): it enters the queue, replaces the one that waits there, or becomes due while one is on the
line. -/
def placePresence (s : State) : State :=
  match s.bus.queue.find? isPresenceFrame with
  | none => enqueue allStations (.presence (formPresence s)) s
  | some q => if q.onLine then { s with roster := { s.roster with due := true } } else replacePresence s

/-- The PRESENCE on the line has returned to the queue (R144, R151): a due one replaces it. -/
def presenceReturned (s : State) : State :=
  if s.roster.due then replacePresence { s with roster := { s.roster with due := false } } else s

/-- The PRESENCE on the line has been carried or discarded (R144): a due one enters the queue. -/
def presenceEnded (s : State) : State :=
  if s.roster.due then
    enqueue allStations (.presence (formPresence s)) { s with roster := { s.roster with due := false } }
  else s

/-- The judging period of a peer, in milliseconds (R138). -/
def judgingPeriod (info : Option Presence) : Nat :=
  match info with
  | some i => periodMs i.period
  | none => 1000

/-- A slot after a frame heard (R139): PRESENT, the stamp now, both timers restarted with the judging period now held. -/
def heardPeer (now : Time) (info : Option Presence) : Peer where
  state := .present
  heard := now
  info := info
  quiet := some (3 * judgingPeriod info)
  gone := some (6 * judgingPeriod info)

/-- The optional fields a slot holds after a frame (R138, R140). -/
def infoAfter (old : Option Peer) (body : Body) : Option Presence :=
  match body with
  | .presence p => some p
  | _ => old.bind Peer.info

/-- "s restarted" to the alert unit and to the requester (R140), of which either may take it first (log entry 7). -/
def announceRestart (station : Nat) (s : State) : State :=
  eitherFirst (peerRestartedAlerts station) (requesterRestarted station) s

/-- The frame is a PRESENCE that carries JOINING (R140). -/
def carriesJoining : Body → Bool
  | .presence p => !p.active
  | _ => false

/-- "Frame heard from s" (R139, R140). -/
def hear (src : Addr) (body : Body) (s : State) : State :=
  let old := s.roster.peers.find src.toNat
  let peer := heardPeer s.time (infoAfter old body)
  let s1 := { s with roster := { s.roster with peers := s.roster.peers.set src.toNat peer } }
  let s2 := if holdsLost s src.toNat then presentAfterLost src.toNat s1 else s1
  if carriesJoining body then announceRestart src.toNat s2 else s2

/-- Expiry of a slot's SILENT timer (R141). -/
def silentExpiry (station : Nat) (s : State) : State :=
  match s.roster.peers.find station with
  | some p =>
    if isDue p.quiet && s.works then
      let silent : Peer := { p with state := .silent, quiet := none }
      { s with roster := { s.roster with peers := s.roster.peers.set station silent } }
    else s
  | none => s

/-- "s LOST" to the value table, the sweep unit and the requester, in any order (R141, log entry 8), and to the alert unit, whose
part touches nothing that the others read or write. The value table's notices reach a requester that has taken the loss already, or
one that takes it afterwards (R122, log entry 25). -/
def announceLost (station : Nat) (s : State) : State :=
  let s1 := { s with draws := s.draws + 1 }
  let v := tableLost staleNoticeBeforeLoss station
  let u := tableLost staleNotice station
  let w := sweepLost station
  let r := requesterLost station
  forgetAsserter station
    (settle s.draws (r (w (v s1))) [w (r (v s1)), r (v (w s1)), u (r (w s1)), w (u (r s1)), u (w (r s1))])

/-- Expiry of a slot's LOST timer (R141). -/
def lostExpiry (station : Nat) (s : State) : State :=
  match s.roster.peers.find station with
  | some p =>
    if isDue p.gone && s.works then
      let lost : Peer := { p with state := .lost, quiet := none, gone := none }
      announceLost station { s with roster := { s.roster with peers := s.roster.peers.set station lost } }
    else s
  | none => s

/-- Expiry of the own presence timer (R142). -/
def presenceExpiry (s : State) : State :=
  if isDue s.roster.presence && (s.station.mode == .joining || s.isActive) then
    placePresence { s with roster := { s.roster with presence := some (periodMs s.cfg.presence) } }
  else s

/-- SILENT_TIMER_EXPIRY (R141). -/
def execSilentTimerExpiry (a : Addr) (s : State) : Host.Outcome State Fault Refusal := .next (silentExpiry a.toNat s)

/-- LOST_TIMER_EXPIRY (R141). -/
def execLostTimerExpiry (a : Addr) (s : State) : Host.Outcome State Fault Refusal := .next (lostExpiry a.toNat s)

/-- PRESENCE_TIMER_EXPIRY (R142). -/
def execPresenceTimerExpiry (s : State) : Host.Outcome State Fault Refusal := .next (presenceExpiry s)

end Sys2Proof.Machine
end

