-- ==== Sys2Proof/Machine/Query.lean ====
section
/-! DEFINITION. The query service (chapter 11): judging a QUERY, answering it, and the content of each REPLY (R178, R179, R183). -/

namespace Sys2Proof.Machine

/-- A truth value as a number. -/
def flag (b : Bool) : Nat := if b then 1 else 0

/-- Codes of the station states (Table 12-3). -/
def modeCode : Mode → Nat
  | .unloaded => 0
  | .loading => 1
  | .joining => 2
  | .active => 3
  | .silenced => 4
  | .fault => 5

/-- Codes of the fault codes (Table 12-3). -/
def faultCodeOf : Option FaultCode → Nat
  | none => 0
  | some .imageAbsent => 1
  | some .imageCheck => 2
  | some (.imageRange _) => 3
  | some .addressConflict => 4

/-- The IMAGE_RANGE offset, 0 otherwise (Table 12-3). -/
def faultOffsetOf : Option FaultCode → Nat
  | some (.imageRange o) => o
  | _ => 0

/-- Codes of the converter states (Table 12-3). -/
def converterCode : ConverterState → Nat
  | .idle => 0
  | .busy => 1
  | .preempted => 2
  | .held => 3

/-- The places byte (Table 12-3). -/
def placesByte (c : Converter) : Byte :=
  byteOf (flag c.trigger.isSome + 2 * flag c.sweep.isSome + 4 * flag c.cadence.isSome + 8 * flag c.running.isSome +
    16 * flag c.suspended.isSome + 32 * flag c.hold.isSome)

/-- STATUS part 0 (R179, Table 12-3), the transmit queue counted with the reply in it. -/
def statusPart0 (s : State) : List Byte :=
  [0, byteOf (modeCode s.station.mode),
    byteOf (128 * flag (s.station.startCause == .line) + faultCodeOf s.station.lastFault),
    byteOf (faultOffsetOf s.station.lastFault), byteOf s.station.conflicts, byteOf (flag s.sweeps.last.isSome)] ++
  wordBytes (s.sweeps.last.getD 0) ++
  [byteOf (converterCode s.converter.state), placesByte s.converter, byteOf s.converter.peers.length,
    byteOf (s.bus.queue.length + 1), byteOf s.bus.refusals.length, byteOf s.requester.pending.length,
    byteOf s.alerts.queue.length, byteOf s.queries.length]

/-- A STATUS reply (R179). -/
def statusContent (part : Nat) (s : State) : List Byte :=
  if part = 0 then statusPart0 s
  else byteOf part :: (if part = 1 then s.counters.first else s.counters.second).flatMap wordBytes

/-- The three bytes of a cause (R181). -/
def causeBytes : Cause → List Byte
  | .sweep n => 0 :: wordBytes n
  | .measure requester tag => [1, requester, tag]
  | .trigger n => 2 :: wordBytes n
  | .cadence n => 3 :: wordBytes n

/-- An age as a reply carries it (R80, R147): it stops at 65535. -/
def ageWord (now stamp : Time) : BitVec 16 := BitVec.ofNat 16 (min (ageOf now stamp) 65535)

/-- Codes of the entry states (Table 12-3). -/
def freshnessCode : Freshness → Nat
  | .empty => 0
  | .fresh => 1
  | .stale => 2

/-- The content of a VALUE reply after its key byte (R80, Table 12-3). -/
def entryContent (now : Time) (e : Entry) : List Byte :=
  [byteOf (freshnessCode e.state + 4 * flag e.unreachable + 8 * flag e.pinned + 16 * flag e.latest.isSome + 32 * flag e.sweep.isSome)] ++
  (match e.latest with
    | some l => wordBytes (valueWord l.value l.flags) ++ causeBytes l.cause ++ wordBytes (ageWord now l.stamp)
    | none => []) ++
  (match e.sweep with
    | some p => wordBytes (valueWord p.value p.flags) ++ wordBytes p.number
    | none => [])

/-- Byte 0 of an ALERT: watch index, group, group present (Table 12-2). -/
def alertByte0 (watch : BitVec 4) (group : Option (BitVec 3)) : Byte := bit group.isSome ++ group.getD 0 ++ watch

/-- Byte 1 of an ALERT between its ends: causes, level, zone (Table 12-2). -/
def alertMiddle (threshold sourceLost : Bool) (level : BitVec 2) (zone : Zone) : BitVec 6 :=
  bit threshold ++ bit sourceLost ++ level ++ zoneCode zone

/-- One record of an ALERTS reply (R121, Table 12-3). -/
def recordBytes (cfg : Settings) (r : AlertRecord) : List Byte :=
  [alertByte0 (BitVec.ofNat 4 r.watch) (groupOf cfg r.watch),
    bit r.acknowledged ++ alertMiddle r.causes.threshold r.causes.sourceLost (levelOf cfg r.watch) r.zone ++ bit r.announce] ++
  wordBytes r.sequence ++ wordBytes (signedWord r.value)

/-- An ALERTS reply (R121, R178): up to four records from the start position. -/
def alertsContent (start : Nat) (s : State) : List Byte :=
  [byteOf start, byteOf s.alerts.queue.length] ++ ((s.alerts.queue.drop start).take 4).flatMap (recordBytes s.cfg)

/-- The run-time byte of a WATCH reply (Table 12-3). -/
def runByte (t : Map Entry) (c : WatchConfig) (r : WatchRun) : Byte :=
  0#1 ++ bit (sourceLostActive t c) ++ bit (thresholdActive c r) ++ bit r.candidate.isSome ++
    zoneCode ((r.candidate.map Candidate.zone).getD .unknown) ++ zoneCode r.zone

/-- The ten image bytes of a watch (Table 12-5). -/
def watchBytes (s : State) (w : Nat) : List Byte :=
  match s.station.image with
  | some im => (im.bytes.drop (watchOffset w)).take 10
  | none => []

/-- A WATCH reply (R100, Table 12-3), or NOT_HELD. -/
def watchContent (w : Nat) (s : State) : Option (List Byte) :=
  match s.cfg.watches[w]?, s.watches[w]? with
  | some c, some r =>
    some (byteOf w :: watchBytes s w ++
      [runByte s.table c r, byteOf ((r.candidate.map Candidate.count).getD 0)] ++ wordBytes r.missed ++ wordBytes (signedWord r.last))
  | _, _ => none

/-- Codes of the tally states (Table 12-3). -/
def tallyCode : TallyState → Nat
  | .opened => 0
  | .complete => 1
  | .incomplete => 2
  | .superseded => 3

/-- A TALLY reply (R62, Table 12-3), or NOT_HELD. -/
def tallyContent (which : Nat) (s : State) : Option (List Byte) :=
  (if which = 0 then s.sweeps.current else s.sweeps.previous).map (fun t =>
    byteOf which :: wordBytes t.number ++ [byteOf (tallyCode t.state)] ++ longBytes t.expected ++ longBytes t.reported ++
      wordBytes t.extra)

/-- The most watch-index sets a GROUP reply carries (R183). -/
def groupSetsCarried : Nat := 12

/-- A GROUP reply (R121, Table 12-3). -/
def groupContent (g : Nat) (s : State) : List Byte :=
  let gr := (s.alerts.groups[g]?).getD Group.unconfigured
  [byteOf g, byteOf (gr.quorum + 16 * flag gr.lineA + 32 * flag gr.lineB + 64 * flag gr.active)] ++
  longBytes (setOf 32 gr.asserters.keys) ++ (gr.asserters.take groupSetsCarried).flatMap (fun p => wordBytes p.2)

/-- Byte 0 of a PRESENCE (Table 12-2). -/
def presenceByte0 (p : Presence) : Byte := bit p.active ++ bit p.participation ++ bit p.lastSweep.isSome ++ 0#3 ++ p.period

/-- The payload of a PRESENCE (Table 12-2). -/
def presenceBytes (p : Presence) : List Byte :=
  presenceByte0 p :: wordBytes p.signature ++ wordBytes (p.lastSweep.getD 0) ++ [p.alerts]

/-- Codes of the peer slot states (Table 12-3). -/
def peerCode : PeerState → Nat
  | .present => 1
  | .silent => 2
  | .lost => 3

/-- A ROSTER reply (R147, Table 12-3). -/
def rosterContent (a : Nat) (s : State) : List Byte :=
  if (s.roster.self.map BitVec.toNat) = some a then [byteOf a, byteOf (4 + 128), 0, 0] ++ presenceBytes (formPresence s)
  else match s.roster.peers.find a with
  | some p =>
    [byteOf a, byteOf (peerCode p.state + 64 + 128 * flag p.info.isSome)] ++ wordBytes (ageWord s.time p.heard) ++
      (match p.info with
        | some i => presenceBytes i
        | none => [])
  | none => [byteOf a, 0, 0, 0]

/-- The number a query's argument names; an absent STATUS part means 0 (Table 11-1). -/
def argNumber : QueryArg → Nat
  | .absent => 0
  | .one a => a.toNat
  | .two a _ => a.toNat

/-- The content of the REPLY to a query (R178), or none for NOT_HELD. -/
def replyContent (kind : BitVec 3) (arg : QueryArg) (s : State) : Option (List Byte) :=
  match kind.toNat, arg with
  | 0, arg => some (statusContent (argNumber arg) s)
  | 1, .two a c => (s.table.find (a.toNat * 8 + c.toNat)).map (fun e => byteOf (a.toNat * 8 + c.toNat) :: entryContent s.time e)
  | 2, arg => some (alertsContent (argNumber arg) s)
  | 3, arg => watchContent (argNumber arg) s
  | 4, arg => tallyContent (argNumber arg) s
  | 5, arg => some (groupContent (argNumber arg) s)
  | 6, arg => some (rosterContent (argNumber arg) s)
  | _, _ => none

/-- The REPLY to a query (R177). -/
def replyBody (q : PendingQuery) (s : State) : Body :=
  match replyContent q.kind q.arg s with
  | some content => .reply q.tag q.kind false content
  | none => .reply q.tag q.kind true []

/-- The query at the head of the list is answered, where the station is ACTIVE and a REPLY quota place is free (R177). -/
def answerOne (s : State) : State :=
  if s.isActive && quotaFree .queryService s then
    match s.queries with
    | q :: qs =>
      let s1 := { s with queries := qs }
      enqueue q.asker (replyBody q s1) s1
    | [] => s
  else s

/-- R177, repeated until the quota of 2 is full or the list is empty. -/
def answer (s : State) : State := answerOne (answerOne s)

/-- The most queries of the pending list (R175). -/
def queryCapacity : Nat := 2

/-- A QUERY dispatched to the query service (R175, R176). -/
def takeQuery (src : Addr) (kind : BitVec 3) (tag : Tag) (arg : QueryArg) (s : State) : State :=
  if s.isActive then
    if !argSuits kind arg then refuse src .query tag .badRequest s
    else if queryCapacity ≤ s.queries.length then refuse src .query tag .busy s
    else answer { s with queries := s.queries ++ [{ asker := src, tag := tag, kind := kind, arg := arg }] }
  else bump .queriesDropped s

/-- The pending list is emptied on leaving ACTIVE, each query counted (R176). -/
def dropQueries (s : State) : State := s.queries.foldl (fun s _ => bump .queriesDropped s) { s with queries := [] }

end Sys2Proof.Machine
end

