-- ==== Sys2Proof/Machine/Formats.lean ====
section
/-! DEFINITION. The bytes of frames (R181, R182, R183): what the station puts on the line, and how received bytes are read (R158
check 1, and the part of check 2 that concerns kind and length). -/

namespace Sys2Proof.Machine

/-- The bytes of an item of a RESULT (Table 12-2). -/
def itemBytes (it : Item) : List Byte := (0#5 ++ it.channel) :: wordBytes (valueWord it.value it.flags)

/-- Byte 1 of an ALERT (Table 12-2). -/
def alertByte1 (a : Alert) : Byte := bit a.cleared ++ alertMiddle a.threshold a.sourceLost a.level a.zone ++ 0#1

/-- Byte 0 of a REFUSE (Table 12-2). -/
def refuseByte0 (kind : RefusedKind) (reason : BitVec 3) : Byte := bit (kind == .query) ++ 0#4 ++ reason

/-- The bytes of a QUERY's argument. -/
def argBytes : QueryArg → List Byte
  | .absent => []
  | .one a => [a]
  | .two a b => [a, b]

/-- The payload of a frame (Table 12-2). -/
def payloadBytes : Body → List Byte
  | .presence p => presenceBytes p
  | .sweep n => wordBytes n
  | .measure tag samples channels => tag :: samples :: channels
  | .result cause items => causeBytes cause ++ items.flatMap itemBytes
  | .refuse kind reason tag => [refuseByte0 kind reason, tag]
  | .alert a => [alertByte0 a.watch a.group, alertByte1 a] ++ wordBytes a.sequence ++ wordBytes a.value
  | .ack q => wordBytes q
  | .query kind tag arg => tag :: (0#5 ++ kind) :: argBytes arg
  | .reply tag kind notHeld content => tag :: (bit notHeld ++ 0#4 ++ kind) :: content

/-- Byte 0 of a header: class, source, the kind code's bit 3 (R182). -/
def headerByte0 (cls : BitVec 2) (src : Addr) (code : BitVec 4) : Byte := cls ++ src ++ code.extractLsb' 3 1

/-- Byte 1 of a header: the kind code's low bits, destination (R182). -/
def headerByte1 (code : BitVec 4) (dst : Addr) : Byte := code.extractLsb' 0 3 ++ dst

/-- Header and payload of a frame. -/
def frameHead (f : Frame) : List Byte :=
  headerByte0 (Body.cls f.body) f.src (Body.code f.body) :: headerByte1 (Body.code f.body) f.dst ::
    byteOf (payloadBytes f.body).length :: payloadBytes f.body

/-- The bytes of a frame on the line (R182): header, payload, check value, high byte first. -/
def frameBytes (f : Frame) : List Byte := frameHead f ++ wordBytes (checkValue (frameHead f))

/-- The cause of three bytes (R181); bits 7 to 2 of the first are ignored (R182). -/
def causeOf (b0 b1 b2 : Byte) : Cause :=
  match b0.toNat % 4 with
  | 0 => .sweep (wordOf b1 b2)
  | 1 => .measure b1 b2
  | 2 => .trigger (wordOf b1 b2)
  | _ => .cadence (wordOf b1 b2)

/-- The items of a RESULT (Table 12-2); none when the bytes are no whole number of items. -/
def itemsOf : List Byte → Option (List Item)
  | [] => some []
  | c :: h :: l :: rest =>
    (itemsOf rest).map (fun items =>
      { channel := c.extractLsb' 0 3, value := valueOfWord (wordOf h l), flags := qualityOfWord (wordOf h l) } :: items)
  | _ => none

/-- The PRESENCE of its payload (Table 12-2). A sweep number that is not present is not read (log entry 15). -/
def presenceOf (b0 s1 s2 n1 n2 count : Byte) : Presence where
  active := b0.getLsbD 7
  participation := b0.getLsbD 6
  period := b0.extractLsb' 0 2
  signature := wordOf s1 s2
  lastSweep := if b0.getLsbD 5 then some (wordOf n1 n2) else none
  alerts := count

/-- The ALERT of its payload (Table 12-2). -/
def alertOf (b0 b1 q1 q2 v1 v2 : Byte) : Alert where
  watch := b0.extractLsb' 0 4
  group := if b0.getLsbD 7 then some (b0.extractLsb' 4 3) else none
  cleared := b1.getLsbD 7
  threshold := b1.getLsbD 6
  sourceLost := b1.getLsbD 5
  level := b1.extractLsb' 3 2
  zone := zoneOfCode (b1.extractLsb' 1 2)
  sequence := wordOf q1 q2
  value := wordOf v1 v2

/-- The body of a payload, by class and kind code (Table 12-1); none when the pair is not one of the nine kinds or the kind does
not allow the length. -/
def bodyOf (cls code : Nat) (payload : List Byte) : Option Body :=
  match cls, code, payload with
  | 3, 1, [b0, s1, s2, n1, n2, count] => some (.presence (presenceOf b0 s1 s2 n1 n2 count))
  | 1, 2, [h, l] => some (.sweep (wordOf h l))
  | 1, 3, tag :: samples :: channels => if channels.length ≤ 8 then some (.measure tag samples channels) else none
  | 2, 4, b0 :: b1 :: b2 :: rest =>
    (itemsOf rest).bind (fun items =>
      if 1 ≤ items.length ∧ items.length ≤ 8 then some (.result (causeOf b0 b1 b2) items) else none)
  | 2, 5, [b0, tag] => some (.refuse (if b0.getLsbD 7 then .query else .measure) (b0.extractLsb' 0 3) tag)
  | 0, 6, [b0, b1, q1, q2, v1, v2] => some (.alert (alertOf b0 b1 q1 q2 v1 v2))
  | 0, 7, [h, l] => some (.ack (wordOf h l))
  | 3, 8, [tag, k] => some (.query (k.extractLsb' 0 3) tag .absent)
  | 3, 8, [tag, k, a] => some (.query (k.extractLsb' 0 3) tag (.one a))
  | 3, 8, [tag, k, a, b] => some (.query (k.extractLsb' 0 3) tag (.two a b))
  | 2, 9, tag :: k :: content =>
    if content.length ≤ 30 then some (.reply tag (k.extractLsb' 0 3) (k.getLsbD 7) content) else none
  | _, _, _ => none

/-- What received bytes are (R158): a failed check value or a frame cut short, a malformed frame, or a frame. -/
inductive Reception where
  | checkFailed
  | malformed
  | frame (f : Frame)
  deriving DecidableEq, Repr

/-- The reading of a whole frame whose check value matches (R182). -/
def readFrame (h0 h1 : Byte) (payload : List Byte) : Reception :=
  match bodyOf (h0.extractLsb' 6 2).toNat (h0.extractLsb' 0 1 ++ h1.extractLsb' 5 3).toNat payload with
  | some body => .frame { src := h0.extractLsb' 1 5, dst := h1.extractLsb' 0 5, body := body }
  | none => .malformed

/-- The reading of received bytes (R158 check 1, R182): the payload and the check value the header announces must have arrived, and
the check value must match. Bytes beyond them are no part of the frame. -/
def readBytes : List Byte → Reception
  | h0 :: h1 :: n :: rest =>
    let payload := rest.take n.toNat
    if rest.length < n.toNat + 2 then .checkFailed
    else if (rest.drop n.toNat).take 2 = wordBytes (checkValue (h0 :: h1 :: n :: payload)) then readFrame h0 h1 payload
    else .checkFailed
  | _ => .checkFailed

end Sys2Proof.Machine
end

