-- ==== Sys2Proof/Machine/Life.lean ====
section
/-! DEFINITION. Station life (chapter 10): resets, loading, joining, active service, leaving it, silence, conflicts, FAULT. -/

namespace Sys2Proof.Machine

/-- The state after a reset (R164): every block as its chapter gives it. What is not the station's to reset stays: the levels of
the input lines, the waiting commands and the model's count of draws. -/
def resetStation (cause : StartCause) (lastFault : Option FaultCode) (rstnHigh : Bool) (s : State) : State :=
  { State.reset with
    station := { State.reset.station with startCause := cause, lastFault := lastFault, rstnHigh := rstnHigh }
    trigger := { State.reset.trigger with line := s.trigger.line }
    draws := s.draws
    pending := s.pending }

/-- Every frame is removed from the transmit queue and the refusal list is emptied (R161). A frame on the line goes on to its end
there, which is ignored (log entry 22); a due PRESENCE is dropped (R144). -/
def flush (s : State) : State :=
  alertFramesFlushed
    { s with
      bus := { s.bus with queue := [], refusals := [], flushed := (onLineFrames s.bus).head? }
      roster := { s.roster with due := false } }

/-- What each block does when the station leaves ACTIVE (R170), the new state being entered already. -/
def leaveActive (s : State) : State :=
  flush (dropQueries (emptyRequester (purgeConverter
    { s with
      station := { s.station with clearing := none }
      sweeps := { s.sweeps with call := none }
      alerts := { s.alerts with timer := none }
      roster := { s.roster with presence := none } })))

/-- What each block does when the station passes from JOINING to a state other than ACTIVE (R142, R161, R172). -/
def leaveJoining (s : State) : State :=
  flush { s with
    station := { s.station with joinWait := none }
    roster := { s.roster with presence := none } }

/-- What the blocks do when the station passes from JOINING or from ACTIVE to a state other than ACTIVE (R161, R170, R172). -/
def leave (fromActive : Bool) : State → State := if fromActive then leaveActive else leaveJoining

/-- The station is in another state, and no block has answered it yet. -/
def toMode (mode : Mode) (s : State) : State := { s with station := { s.station with mode := mode } }

/-- The groups after the entry into FAULT (R119): every asserter map is emptied. -/
def clearAsserters (g : Group) : Group := Group.recompute { g with asserters := [] }

/-- The alert unit after the entry into FAULT (R119). -/
def AlertUnit.faulted (u : AlertUnit) : AlertUnit :=
  { u with queue := [], finals := [], timer := none, groups := u.groups.map clearAsserters, ala := false, alb := false }

/-- Entry into FAULT (R174): the start record, FAULTN, and what each block does. -/
def enterFault (code : FaultCode) (s : State) : State :=
  { s with
    station := { s.station with
      mode := .fault, lastFault := some code, joinWait := none, release := none, releaseReason := none, clearing := none,
      reading := [], faultn := .low }
    trigger := { s.trigger with debounce := none }                                  -- R40
    cadence := { s.cadence with timer := none }                                     -- R42
    converter := Converter.empty                                                    -- R30
    sweeps := { s.sweeps with call := none, deadline := none }                      -- R63
    table := []                                                                     -- R78
    watches := []                                                                   -- R99
    alerts := AlertUnit.faulted s.alerts                                            -- R119
    requester := { s.requester with wanted := [], holdOffs := [], pending := [] }   -- R136
    roster := { s.roster with peers := [], presence := none, due := false }         -- R146
    bus := { s.bus with queue := [], refusals := [], flushed := none }             -- R162
    queries := [] }                                                                 -- R176

/-- Entry into JOINING (R169): the join wait, the presence timer, the consecutive-error count and a PRESENCE. -/
def enterJoining (s : State) : State :=
  placePresence { s with
    station := { s.station with
      mode := .joining, joinWait := some (2 * periodMs s.cfg.presence), release := none, releaseReason := none }
    roster := { s.roster with presence := some (periodMs s.cfg.presence) }
    bus := { s.bus with errors := 0 } }

/-- The conflict clearing timer's duration, in milliseconds (R173). -/
def clearingMs : Nat := 60000

/-- Entry into ACTIVE (R169): the conflict clearing timer, the call timer (R51) and the repeat timer start (R109); the value table gives
its stale announcements (R73) and the alert unit announces what fell due (R118), of which either may be taken first (log entry 27). -/
def enterActive (s : State) : State :=
  eitherFirst announceStale announce
    { s with
      station := { s.station with mode := .active, joinWait := none, clearing := some clearingMs }
      sweeps := { s.sweeps with call := if s.cfg.sweepPeriod = 0 then none else some (callDuration s.cfg) }
      alerts := { s.alerts with timer := some s.cfg.alertRepeat } }

/-- The silence period, in milliseconds (R171). -/
def silenceMs : Nat := 2000

/-- The station enters SILENCED (R171, R172): it leaves JOINING or ACTIVE, and the release timer starts. -/
def enterSilenced (reason : ReleaseReason) (ms : Nat) (s : State) : State :=
  let s1 := leave s.isActive (toMode .silenced s)
  { s1 with station := { s1.station with release := some ms, releaseReason := some reason } }

/-- The conflict count that ends in FAULT (R172). -/
def conflictLimit : Nat := 3

/-- An address-conflict event at station control (R172); outside JOINING and ACTIVE it has no effect (R171). At the third, leaving the
state and entering FAULT are two events, of which either may be taken first (R170): a query pending in ACTIVE is counted as dropped
by the first and not by the second (R176, log entry 20). -/
def addressConflict (s : State) : State :=
  if s.station.mode == .joining || s.isActive then
    let n := s.station.conflicts + 1
    let s1 := { s with station := { s.station with conflicts := n } }
    if conflictLimit ≤ n then eitherFirst (leave s.isActive) (enterFault .addressConflict) (toMode .fault s1)
    else enterSilenced .conflict (s.own.toNat * 20) s1
  else s

/-- The group table at load (R113, R120). -/
def Group.ofConfig (g : GroupConfig) : Group where
  quorum := g.quorum
  lineA := g.lineA
  lineB := g.lineB
  asserters := []
  active := false

/-- The load completes (R168): the image is kept, the blocks take their settings, and the station enters JOINING. -/
def loadComplete (bytes : List Byte) (s : State) : State :=
  let c := settingsOf bytes
  enterJoining
    { s with
      station := { s.station with image := some { bytes := bytes, settings := c }, reading := [] }
      trigger := { s.trigger with accepted := if c.triggerSet = 0 then none else some s.trigger.line }   -- R36
      cadence := { s.cadence with timer := c.cadence }                                                   -- R41
      table := pinnedTable c                                                                             -- R66
      watches := c.watches.map (fun _ => WatchRun.initial)                                               -- R83
      alerts := AlertUnit.driveLines { s.alerts with groups := c.groups.map Group.ofConfig }             -- R120
      roster := { s.roster with self := some c.own } }                                                   -- R137

/-- The read has ended with the image read: it is validated (R167), and the load completes or fails. -/
def validate (bytes : List Byte) (s : State) : State :=
  match imageFault bytes with
  | some code => enterFault code s
  | none => loadComplete bytes s

/-- The configuration memory gives a byte (R166). -/
def configByteGiven (b : Byte) (s : State) : State :=
  if s.station.mode = .loading then
    let bytes := s.station.reading ++ [b]
    let s1 := { s with station := { s.station with reading := bytes } }
    if readEnds bytes then validate bytes s1 else s1
  else s

/-- The configuration memory leaves a byte ungiven (R166): no response, and validation fails with IMAGE_ABSENT (R167). -/
def configByteUngiven (s : State) : State :=
  if s.station.mode = .loading then enterFault .imageAbsent s else s

/-- RSTN is high (R166): a station in UNLOADED passes to LOADING and starts the read. -/
def rstnHigh (s : State) : State :=
  let s1 := { s with station := { s.station with rstnHigh := true } }
  if s.station.mode = .unloaded then { s1 with station := { s1.station with mode := .loading, reading := [] } } else s1

/-- Expiry of the join wait (R169). -/
def joinWaitExpiry (s : State) : State :=
  if isDue s.station.joinWait && s.station.mode == .joining then enterActive s else s

/-- Expiry of the release timer (R171). -/
def releaseExpiry (s : State) : State :=
  if isDue s.station.release && s.station.mode == .silenced then enterJoining s else s

/-- Expiry of the conflict clearing timer (R173). -/
def clearingExpiry (s : State) : State :=
  if isDue s.station.clearing && s.isActive then
    { s with station := { s.station with conflicts := 0, clearing := none } }
  else s

/-- POWER_ON_RESET (R164, R165). -/
def execPowerOnReset (s : State) : Host.Outcome State Fault Refusal :=
  .next (resetStation .power none s.station.rstnHigh s)

/-- LINE_RESET (R164, R165): RSTN is driven low, and is low from now on. A line that is low already cannot be driven low: no reset
takes place, and nothing changes (log entry 2). -/
def execLineReset (s : State) : Host.Outcome State Fault Refusal :=
  .next (if s.station.rstnHigh then resetStation .line s.station.lastFault false s else s)

/-- RSTN_HIGH (R166). -/
def execRstnHigh (s : State) : Host.Outcome State Fault Refusal := .next (rstnHigh s)

/-- CONFIG_BYTE_GIVEN (R166, R167, R168). -/
def execConfigByteGiven (b : Byte) (s : State) : Host.Outcome State Fault Refusal := .next (configByteGiven b s)

/-- CONFIG_BYTE_UNGIVEN (R166, R167). -/
def execConfigByteUngiven (s : State) : Host.Outcome State Fault Refusal := .next (configByteUngiven s)

/-- JOIN_WAIT_EXPIRY (R169). -/
def execJoinWaitExpiry (s : State) : Host.Outcome State Fault Refusal := .next (joinWaitExpiry s)

/-- RELEASE_TIMER_EXPIRY (R171). -/
def execReleaseTimerExpiry (s : State) : Host.Outcome State Fault Refusal := .next (releaseExpiry s)

/-- CONFLICT_CLEARING_EXPIRY (R173). -/
def execConflictClearingExpiry (s : State) : Host.Outcome State Fault Refusal := .next (clearingExpiry s)

end Sys2Proof.Machine
end

