-- ==== Sys2Proof/Machine/Time.lean ====
section
/-! DEFINITION. The time base, the trigger input and the cadence timer (chapter 2). -/

namespace Sys2Proof.Machine

/-- One advance at a pending entry's timer (R124). -/
def Stage.tick : Stage → Stage
  | .due => .due
  | .queued => .queued
  | .sent n => .sent (n - 1)
  | .backingOff n => .backingOff (n - 1)

/-- One advance at every timer of the station (R33, Table 2-1). -/
def tickAll (s : State) : State :=
  { s with
    station := { s.station with
      joinWait := tick s.station.joinWait, release := tick s.station.release, clearing := tick s.station.clearing }
    trigger := { s.trigger with debounce := tick s.trigger.debounce }
    cadence := { s.cadence with timer := tick s.cadence.timer }
    sweeps := { s.sweeps with call := tick s.sweeps.call, deadline := tick s.sweeps.deadline }
    table := s.table.mapRecords (fun _ e => { e with timer := tick e.timer })
    alerts := { s.alerts with timer := tick s.alerts.timer }
    requester := { s.requester with
      holdOffs := s.requester.holdOffs.mapRecords (fun _ n => n - 1)
      pending := s.requester.pending.map (fun e => { e with stage := Stage.tick e.stage }) }
    roster := { s.roster with
      presence := tick s.roster.presence
      peers := s.roster.peers.mapRecords (fun _ p => { p with quiet := tick p.quiet, gone := tick p.gone }) } }

/-- One millisecond of the time base (R32): the station time advances in JOINING, ACTIVE and SILENCED, and every timer with it. -/
def timeAdvance (s : State) : State := if s.works then tickAll { s with time := s.time + 1 } else s

/-- The opposite level. -/
def Level.opposite : Level → Level
  | .low => .high
  | .high => .low

/-- An accepted change to a level is an edge in the edge mode (R39). -/
def isEdge : EdgeMode → Level → Bool
  | .rising, .high => true
  | .falling, .low => true
  | .both, _ => true
  | .rising, .low => false
  | .falling, .high => false

/-- A change to a level is accepted and judged (R37, R38, R39): an edge advances the trigger count and offers a trigger. -/
def acceptLevel (l : Level) (s : State) : State :=
  let s1 := { s with trigger := { s.trigger with accepted := some l, debounce := none } }
  if isEdge s.cfg.edge l then
    let n := s.trigger.count + 1
    offerTrigger n { s1 with trigger := { s1.trigger with count := n } }
  else s1

/-- The TRG line takes a level (R37, R38). A line that has the level already does not change (R38). -/
def trgChange (l : Level) (s : State) : State :=
  let s1 := { s with trigger := { s.trigger with line := l } }
  if s.trigger.line = l ∨ s.works = false then s1
  else match s.trigger.accepted with
    | none => s1
    | some a =>
      if s.cfg.debounce = 0 then (if l = a then s1 else acceptLevel l s1)
      else if s.trigger.debounce.isSome then
        (if l = a then { s1 with trigger := { s1.trigger with debounce := none } } else s1)
      else if l = a then s1
      else { s1 with trigger := { s1.trigger with debounce := some s.cfg.debounce } }

/-- Expiry of the debounce timer (R38). -/
def debounceExpiry (s : State) : State :=
  if isDue s.trigger.debounce && s.works then
    match s.trigger.accepted with
    | some a => acceptLevel (Level.opposite a) s
    | none => s
  else s

/-- Expiry of the cadence timer (R41): restarted at once, and a tick. -/
def cadenceTick (s : State) : State :=
  if isDue s.cadence.timer && s.works then
    let n := s.cadence.count + 1
    offerCadence n { s with cadence := { timer := s.cfg.cadence, count := n } }
  else s

/-- TIME_BASE_ADVANCE (R32, R33). -/
def execTimeBaseAdvance (s : State) : Host.Outcome State Fault Refusal := .next (timeAdvance s)

/-- TRG_CHANGE (R37, R38). -/
def execTrgChange (l : Level) (s : State) : Host.Outcome State Fault Refusal := .next (trgChange l s)

/-- DEBOUNCE_EXPIRY (R38, R39). -/
def execDebounceExpiry (s : State) : Host.Outcome State Fault Refusal := .next (debounceExpiry s)

/-- CADENCE_TICK (R41, R12). -/
def execCadenceTick (s : State) : Host.Outcome State Fault Refusal := .next (cadenceTick s)

end Sys2Proof.Machine
end

