-- ==== Sys2Proof/Machine/Line.lean ====
section
/-! DEFINITION. The station's own frames on the line (chapter 9): starting, completion, loss, transmit error, key-field conflict, and the
end of a flushed frame. -/

namespace Sys2Proof.Machine

/-- The station's frame on the line. -/
def frameOnLine (s : State) : Option QueuedFrame := s.bus.queue.find? QueuedFrame.onLine

/-- No frame of the station is on the line, flushed or not (R150). -/
def lineFree (s : State) : Bool := (onLineFrames s.bus).isEmpty

/-- A frame with this key wins the line from every frame that the station has on it (R148): its key is lower. With no frame of the
station on the line there is nothing to win. -/
def winsLine (key : Nat) (s : State) : Bool := (onLineFrames s.bus).all (fun q => decide (key < Frame.key q.frame))

/-- The lowest class in the queue (R150). -/
def lowestClass : List QueuedFrame → Nat
  | [] => 3
  | q :: l => min (Body.cls q.frame.body).toNat (lowestClass l)

/-- The frame that is sent next (R150): of the lowest class in the queue, the one that entered earliest. -/
def isNext (queue : List QueuedFrame) (q : QueuedFrame) : Bool := (Body.cls q.frame.body).toNat == lowestClass queue

/-- The bus unit begins a frame (R150). -/
def txStart (s : State) : State :=
  if (s.station.mode == .joining || s.isActive) && lineFree s then
    { s with bus := { s.bus with queue := updateFirst (isNext s.bus.queue) (fun q => { q with onLine := true }) s.bus.queue } }
  else s

/-- The station's frame on the line leaves the queue. -/
def removeOnLine (s : State) : State :=
  { s with bus := { s.bus with queue := removeFirst QueuedFrame.onLine s.bus.queue } }

/-- The producer of a frame that has left the queue is told how it ended, by completion (true) or discard (false), and its freed
place is used (R152, R153; R25, R53, R108, R127, R144, R157, R177). -/
def frameEnded (q : QueuedFrame) (completed : Bool) (s : State) : State :=
  match q.frame.body with
  | .alert _ => alertFrameEnded q completed s
  | .sweep n => if completed && acceptable n s.sweeps.last then acceptSweep n s else s
  | .measure tag _ _ => measureEnded tag completed s
  | .result .. => releaseHold s
  | .refuse .. => pumpRefusals s
  | .reply .. => answer s
  | .presence _ => presenceEnded s
  | .ack _ => s
  | .query .. => s

/-- A frame carried whole (R152). -/
def sendCompletion (s : State) : State :=
  match frameOnLine s with
  | some q =>
    let s1 := removeOnLine s
    frameEnded q true { s1 with bus := { s1.bus with errors := 0 } }
  | none => s

/-- The frame on the line returns to the queue where it stood, changed by f. -/
def returnFrame (f : QueuedFrame → QueuedFrame) (s : State) : State :=
  { s with bus := { s.bus with queue := updateFirst QueuedFrame.onLine (fun q => { f q with onLine := false }) s.bus.queue } }

/-- The frame on the line returns to the queue (R148, R153, R155): one marked withdrawn is removed instead (R156), and a due PRESENCE
replaces a PRESENCE (R151). -/
def frameReturned (q : QueuedFrame) (f : QueuedFrame → QueuedFrame) (s : State) : State :=
  if q.withdrawn then removeOnLine s
  else if isPresenceFrame q then presenceReturned (returnFrame f s)
  else returnFrame f s

/-- A lost line (R148): the frame stays where it stood, with no attempt counted. -/
def arbitrationLoss (s : State) : State :=
  match frameOnLine s with
  | some q => frameReturned q id s
  | none => s

/-- The attempts after which a frame is discarded (R153). -/
def attemptLimit : Nat := 4

/-- The consecutive errors at which the station is silenced (R154). -/
def errorLimit : Nat := 16

/-- A frame is discarded (R153): the tx failures rise and the producer is told. Either may be taken first (R180, log entry 29): the
next query answered at a REPLY's discard may ask for that counter. -/
def discardFrame (q : QueuedFrame) (s : State) : State := eitherFirst (bump .txFailures) (frameEnded q false) s

/-- The frame's part of a transmit error (R153, R156): it is removed if withdrawn, discarded at its fourth attempt, and returned
otherwise. -/
def erroredFrame (q : QueuedFrame) (s : State) : State :=
  if q.withdrawn then removeOnLine s
  else if attemptLimit ≤ q.attempts + 1 then discardFrame q (removeOnLine s)
  else frameReturned q (fun q => { q with attempts := q.attempts + 1 }) s

/-- The consecutive-error count risen by one (R154); it runs to 16. -/
def raiseErrors (s : State) : State := { s with bus := { s.bus with errors := min (s.bus.errors + 1) errorLimit } }

/-- The report of 16 consecutive errors at station control (R154, R171), after the frame's own part. -/
def reportErrors (s : State) : State :=
  if errorLimit ≤ s.bus.errors && s.isActive then enterSilenced .errors silenceMs s else s

/-- A transmit error (R153, R154). -/
def transmitError (s : State) : State :=
  match frameOnLine s with
  | some q => reportErrors (erroredFrame q (raiseErrors s))
  | none => s

/-- A key-field conflict (R155): the frame returns with nothing counted, and one address-conflict event is reported. -/
def keyFieldConflict (s : State) : State :=
  match frameOnLine s with
  | some q => addressConflict (frameReturned q id s)
  | none => s

/-- A flushed frame reaches its end on the line (R161): nothing else comes of it. -/
def flushedFrameEnd (s : State) : State := { s with bus := { s.bus with flushed := none } }

/-- TX_FRAME_START (R150). -/
def execTxFrameStart (s : State) : Host.Outcome State Fault Refusal := .next (txStart s)

/-- SEND_COMPLETION (R152). -/
def execSendCompletion (s : State) : Host.Outcome State Fault Refusal := .next (sendCompletion s)

/-- ARBITRATION_LOSS (R148). -/
def execArbitrationLoss (s : State) : Host.Outcome State Fault Refusal := .next (arbitrationLoss s)

/-- TRANSMIT_ERROR (R153). -/
def execTransmitError (s : State) : Host.Outcome State Fault Refusal := .next (transmitError s)

/-- KEY_FIELD_CONFLICT (R155). -/
def execKeyFieldConflict (s : State) : Host.Outcome State Fault Refusal := .next (keyFieldConflict s)

/-- FLUSHED_FRAME_END (R161). -/
def execFlushedFrameEnd (s : State) : Host.Outcome State Fault Refusal := .next (flushedFrameEnd s)

end Sys2Proof.Machine
end

