-- ==== Sys2Proof/Machine/Receive.lean ====
section
/-! DEFINITION. Receiving (chapter 9.4): the checks of R158, the roster hand-over, the destination filter and the dispatch by kind. -/

namespace Sys2Proof.Machine

/-- The bus unit receives (R160): in every state but FAULT, and not while RSTN is held low, when no block acts (R164). -/
def receives (s : State) : Bool :=
  match s.station.mode with
  | .fault => false
  | .unloaded => s.station.rstnHigh
  | .loading => true
  | .joining => true
  | .active => true
  | .silenced => true

/-- Dispatch of a valid frame that the destination filter keeps (R159). A RESULT goes to the value table and then to the sweep unit
(R48); the requester's part of it is `dispatchRequester`. -/
def dispatch (f : Frame) (s : State) : State :=
  match f.body with
  | .presence _ => s
  | .sweep n => takeSweep n s
  | .measure tag samples channels => takeMeasure f.src tag samples channels s
  | .result cause items => sweepResult f.src cause (applyBatch f.src cause items s)
  | .refuse kind reason tag => takeRefuse f.src kind reason tag s
  | .alert a => takeAlert f.src a s
  | .ack q => takeAck q s
  | .query kind tag arg => takeQuery f.src kind tag arg s
  | .reply .. => bump .unexpectedReply s

/-- The requester's part of a RESULT (R128), which it takes independently of the value table and the sweep unit (R159). No other kind
has a part of its own. -/
def dispatchRequester (f : Frame) (s : State) : State :=
  match f.body with
  | .result cause items => requesterResult f.src cause items s
  | .presence _ => s
  | .sweep _ => s
  | .measure .. => s
  | .refuse .. => s
  | .alert _ => s
  | .ack _ => s
  | .query .. => s
  | .reply .. => s

/-- Dispatch in UNLOADED and LOADING (R160): a MEASURE and a QUERY are ignored and counted by their blocks; a SWEEP and a RESULT are
ignored by the sweep unit (R45); other kinds are discarded. -/
def dispatchUnconfigured (f : Frame) (s : State) : State :=
  match f.body with
  | .measure tag samples channels => takeMeasure f.src tag samples channels s
  | .query kind tag arg => takeQuery f.src kind tag arg s
  | .presence _ => s
  | .sweep _ => s
  | .result .. => s
  | .refuse .. => s
  | .alert _ => s
  | .ack _ => s
  | .reply .. => s

/-- The destination filter keeps broadcast frames and frames to the own address (R158). -/
def keptByFilter (f : Frame) (s : State) : Bool := f.dst == allStations || f.dst == s.own

/-- A valid frame in JOINING, ACTIVE or SILENCED (R158): the roster takes it, and the blocks it is for take it, in any order of the
roster, the requester's part of a RESULT, and the rest (R48, R159, log entries 6 and 9). -/
def takeValid (f : Frame) (s : State) : State :=
  if keptByFilter f s then anyOrder (hear f.src f.body) (dispatch f) (dispatchRequester f) s
  else hear f.src f.body s

/-- A frame with this key reaches the bus unit (R149, R160): while a frame of the station is on the line and not lost, it receives
nothing else, and a frame it receives then is one that has won the line (R53, log entry 12). -/
def hears (key : Nat) (s : State) : Bool := receives s && winsLine key s

/-- A received frame whose check value has matched and whose kind is one of the nine (R158, R160). -/
def receive (f : Frame) (s : State) : State :=
  if !hears (Frame.key f) s then s
  else if !Frame.wellFormed f then bump .rxMalformed s
  else if !s.works then dispatchUnconfigured f s
  else if f.src = s.own then addressConflict s
  else takeValid f s

/-- The key of received bytes (R148): class and source, the first seven bits. A frame cut short before its first byte is whole is
given with no byte, and its key is taken as higher than every frame's (log entry 12). -/
def bytesKey : List Byte → Nat
  | [] => 128
  | b :: _ => b.toNat / 2

/-- Received bytes (R158). -/
def receiveBytes (bytes : List Byte) (s : State) : State :=
  if !hears (bytesKey bytes) s then s
  else match readBytes bytes with
  | .checkFailed => bump .rxCheckErrors s
  | .malformed => bump .rxMalformed s
  | .frame f => receive f s

/-- RX_BAD_FRAME (R158): bytes that may fail any check; bytes that fail none are a frame like any other (log entry 13). -/
def execRxBadFrame (bytes : List Byte) (s : State) : Host.Outcome State Fault Refusal := .next (receiveBytes bytes s)

/-- RX_PRESENCE (R140, R158). -/
def execRxPresence (src dst : Addr) (p : Presence) (s : State) : Host.Outcome State Fault Refusal :=
  .next (receive { src := src, dst := dst, body := .presence p } s)

/-- RX_SWEEP (R46, R158). -/
def execRxSweep (src dst : Addr) (n : Count) (s : State) : Host.Outcome State Fault Refusal :=
  .next (receive { src := src, dst := dst, body := .sweep n } s)

/-- RX_MEASURE (R9, R11, R158). -/
def execRxMeasure (src dst : Addr) (tag : Tag) (samples : Byte) (channels : List Byte) (s : State) : Host.Outcome State Fault Refusal :=
  .next (receive { src := src, dst := dst, body := .measure tag samples channels } s)

/-- RX_RESULT (R159, R158). -/
def execRxResult (src dst : Addr) (cause : Cause) (items : List Item) (s : State) : Host.Outcome State Fault Refusal :=
  .next (receive { src := src, dst := dst, body := .result cause items } s)

/-- RX_REFUSE (R129, R158). -/
def execRxRefuse (src dst : Addr) (kind : RefusedKind) (reason : BitVec 3) (tag : Tag) (s : State) : Host.Outcome State Fault Refusal :=
  .next (receive { src := src, dst := dst, body := .refuse kind reason tag } s)

/-- RX_ALERT (R115, R158). -/
def execRxAlert (src dst : Addr) (a : Alert) (s : State) : Host.Outcome State Fault Refusal :=
  .next (receive { src := src, dst := dst, body := .alert a } s)

/-- RX_ACK (R111, R158). -/
def execRxAck (src dst : Addr) (q : Count) (s : State) : Host.Outcome State Fault Refusal :=
  .next (receive { src := src, dst := dst, body := .ack q } s)

/-- RX_REPLY (R159, R158). -/
def execRxReply (src dst : Addr) (tag : Tag) (kind : BitVec 3) (notHeld : Bool) (content : List Byte) (s : State) :
    Host.Outcome State Fault Refusal :=
  .next (receive { src := src, dst := dst, body := .reply tag kind notHeld content } s)

/-- A received QUERY of a kind (R175, R176, R158). -/
def receiveQuery (kind : BitVec 3) (src dst : Addr) (tag : Tag) (arg : QueryArg) (s : State) : State :=
  receive { src := src, dst := dst, body := .query kind tag arg } s

/-- QUERY_STATUS (R179). -/
def execQueryStatus (src dst : Addr) (tag : Tag) (arg : QueryArg) (s : State) : Host.Outcome State Fault Refusal :=
  .next (receiveQuery 0 src dst tag arg s)

/-- QUERY_VALUE (R80). -/
def execQueryValue (src dst : Addr) (tag : Tag) (arg : QueryArg) (s : State) : Host.Outcome State Fault Refusal :=
  .next (receiveQuery 1 src dst tag arg s)

/-- QUERY_ALERTS (R121). -/
def execQueryAlerts (src dst : Addr) (tag : Tag) (arg : QueryArg) (s : State) : Host.Outcome State Fault Refusal :=
  .next (receiveQuery 2 src dst tag arg s)

/-- QUERY_WATCH (R100). -/
def execQueryWatch (src dst : Addr) (tag : Tag) (arg : QueryArg) (s : State) : Host.Outcome State Fault Refusal :=
  .next (receiveQuery 3 src dst tag arg s)

/-- QUERY_TALLY (R62). -/
def execQueryTally (src dst : Addr) (tag : Tag) (arg : QueryArg) (s : State) : Host.Outcome State Fault Refusal :=
  .next (receiveQuery 4 src dst tag arg s)

/-- QUERY_GROUP (R178). -/
def execQueryGroup (src dst : Addr) (tag : Tag) (arg : QueryArg) (s : State) : Host.Outcome State Fault Refusal :=
  .next (receiveQuery 5 src dst tag arg s)

/-- QUERY_ROSTER (R147). -/
def execQueryRoster (src dst : Addr) (tag : Tag) (arg : QueryArg) (s : State) : Host.Outcome State Fault Refusal :=
  .next (receiveQuery 6 src dst tag arg s)

/-- QUERY_UNKNOWN_KIND (R182): kind code 7. -/
def execQueryUnknownKind (src dst : Addr) (tag : Tag) (arg : QueryArg) (s : State) : Host.Outcome State Fault Refusal :=
  .next (receiveQuery 7 src dst tag arg s)

end Sys2Proof.Machine
end

