-- ==== Sys2Proof/Machine/Dispatch.lean ====
section
/-! DEFINITION. One arm for each command: its meaning. -/

namespace Sys2Proof.Machine

def exec (i : Instr) (s : State) : Host.Outcome State Fault Refusal :=
  match i with
  -- resets and loading
  | .powerOnReset => Sys2Proof.Machine.execPowerOnReset s
  | .lineReset => Sys2Proof.Machine.execLineReset s
  | .rstnHigh => Sys2Proof.Machine.execRstnHigh s
  | .configByteGiven b => Sys2Proof.Machine.execConfigByteGiven b s
  | .configByteUngiven => Sys2Proof.Machine.execConfigByteUngiven s
  -- time base and local inputs
  | .timeBaseAdvance => Sys2Proof.Machine.execTimeBaseAdvance s
  | .trgChange level => Sys2Proof.Machine.execTrgChange level s
  | .debounceExpiry => Sys2Proof.Machine.execDebounceExpiry s
  | .cadenceTick => Sys2Proof.Machine.execCadenceTick s
  -- converter
  | .channelCompletion s0 s1 s2 s3 => Sys2Proof.Machine.execChannelCompletion s0 s1 s2 s3 s
  -- timers
  | .freshnessExpiry k => Sys2Proof.Machine.execFreshnessExpiry k s
  | .alertRepeatExpiry => Sys2Proof.Machine.execAlertRepeatExpiry s
  | .callTimerExpiry => Sys2Proof.Machine.execCallTimerExpiry s
  | .sweepDeadlineExpiry => Sys2Proof.Machine.execSweepDeadlineExpiry s
  | .replyTimerExpiry tag => Sys2Proof.Machine.execReplyTimerExpiry tag s
  | .backOffExpiry tag => Sys2Proof.Machine.execBackOffExpiry tag s
  | .holdOffExpiry k => Sys2Proof.Machine.execHoldOffExpiry k s
  | .presenceTimerExpiry => Sys2Proof.Machine.execPresenceTimerExpiry s
  | .silentTimerExpiry a => Sys2Proof.Machine.execSilentTimerExpiry a s
  | .lostTimerExpiry a => Sys2Proof.Machine.execLostTimerExpiry a s
  | .joinWaitExpiry => Sys2Proof.Machine.execJoinWaitExpiry s
  | .releaseTimerExpiry => Sys2Proof.Machine.execReleaseTimerExpiry s
  | .conflictClearingExpiry => Sys2Proof.Machine.execConflictClearingExpiry s
  -- the station's own frames on the line
  | .txFrameStart => Sys2Proof.Machine.execTxFrameStart s
  | .sendCompletion => Sys2Proof.Machine.execSendCompletion s
  | .arbitrationLoss => Sys2Proof.Machine.execArbitrationLoss s
  | .transmitError => Sys2Proof.Machine.execTransmitError s
  | .keyFieldConflict => Sys2Proof.Machine.execKeyFieldConflict s
  | .flushedFrameEnd => Sys2Proof.Machine.execFlushedFrameEnd s
  -- received frames
  | .rxBadFrame bytes => Sys2Proof.Machine.execRxBadFrame bytes s
  | .rxPresence src dst p => Sys2Proof.Machine.execRxPresence src dst p s
  | .rxSweep src dst number => Sys2Proof.Machine.execRxSweep src dst number s
  | .rxMeasure src dst tag samples channels => Sys2Proof.Machine.execRxMeasure src dst tag samples channels s
  | .rxResult src dst cause items => Sys2Proof.Machine.execRxResult src dst cause items s
  | .rxRefuse src dst kind reason tag => Sys2Proof.Machine.execRxRefuse src dst kind reason tag s
  | .rxAlert src dst a => Sys2Proof.Machine.execRxAlert src dst a s
  | .rxAck src dst sequence => Sys2Proof.Machine.execRxAck src dst sequence s
  | .rxReply src dst tag kind notHeld content => Sys2Proof.Machine.execRxReply src dst tag kind notHeld content s
  | .queryStatus src dst tag arg => Sys2Proof.Machine.execQueryStatus src dst tag arg s
  | .queryValue src dst tag arg => Sys2Proof.Machine.execQueryValue src dst tag arg s
  | .queryAlerts src dst tag arg => Sys2Proof.Machine.execQueryAlerts src dst tag arg s
  | .queryWatch src dst tag arg => Sys2Proof.Machine.execQueryWatch src dst tag arg s
  | .queryTally src dst tag arg => Sys2Proof.Machine.execQueryTally src dst tag arg s
  | .queryGroup src dst tag arg => Sys2Proof.Machine.execQueryGroup src dst tag arg s
  | .queryRoster src dst tag arg => Sys2Proof.Machine.execQueryRoster src dst tag arg s
  | .queryUnknownKind src dst tag arg => Sys2Proof.Machine.execQueryUnknownKind src dst tag arg s

end Sys2Proof.Machine
end

