-- ==== Sys2Proof/WellFormed.lean ====
section
/-! DEFINITION. Which commands are well formed: the frames that pass the checks of R158 on kind, length, source, destination and
fields, and the addresses and keys that name a station. An ill-formed command still has an outcome (R158 counts such a frame as
malformed; a timer of no station never runs), so these are checks of a sender's work, not premises of the meanings. -/

namespace Sys2Proof

/-- The frame that a receive command carries, for the rows that carry one as fields. -/
def Instr.frame : Instr → Option Frame
  | .rxPresence src dst p => some ⟨src, dst, .presence p⟩
  | .rxSweep src dst n => some ⟨src, dst, .sweep n⟩
  | .rxMeasure src dst tag samples channels => some ⟨src, dst, .measure tag samples channels⟩
  | .rxResult src dst cause items => some ⟨src, dst, .result cause items⟩
  | .rxRefuse src dst kind reason tag => some ⟨src, dst, .refuse kind reason tag⟩
  | .rxAlert src dst a => some ⟨src, dst, .alert a⟩
  | .rxAck src dst q => some ⟨src, dst, .ack q⟩
  | .rxReply src dst tag kind notHeld content => some ⟨src, dst, .reply tag kind notHeld content⟩
  | .queryStatus src dst tag arg => some ⟨src, dst, .query 0 tag arg⟩
  | .queryValue src dst tag arg => some ⟨src, dst, .query 1 tag arg⟩
  | .queryAlerts src dst tag arg => some ⟨src, dst, .query 2 tag arg⟩
  | .queryWatch src dst tag arg => some ⟨src, dst, .query 3 tag arg⟩
  | .queryTally src dst tag arg => some ⟨src, dst, .query 4 tag arg⟩
  | .queryGroup src dst tag arg => some ⟨src, dst, .query 5 tag arg⟩
  | .queryRoster src dst tag arg => some ⟨src, dst, .query 6 tag arg⟩
  | .queryUnknownKind src dst tag arg => some ⟨src, dst, .query 7 tag arg⟩
  | .powerOnReset => none
  | .lineReset => none
  | .rstnHigh => none
  | .configByteGiven _ => none
  | .configByteUngiven => none
  | .timeBaseAdvance => none
  | .trgChange _ => none
  | .debounceExpiry => none
  | .cadenceTick => none
  | .channelCompletion .. => none
  | .freshnessExpiry _ => none
  | .alertRepeatExpiry => none
  | .callTimerExpiry => none
  | .sweepDeadlineExpiry => none
  | .replyTimerExpiry _ => none
  | .backOffExpiry _ => none
  | .holdOffExpiry _ => none
  | .presenceTimerExpiry => none
  | .silentTimerExpiry _ => none
  | .lostTimerExpiry _ => none
  | .joinWaitExpiry => none
  | .releaseTimerExpiry => none
  | .conflictClearingExpiry => none
  | .txFrameStart => none
  | .sendCompletion => none
  | .arbitrationLoss => none
  | .transmitError => none
  | .keyFieldConflict => none
  | .flushedFrameEnd => none
  | .rxBadFrame _ => none

/-- The station addresses that a command's own operands name, outside a frame. -/
def Instr.stations : Instr → List Addr
  | .freshnessExpiry k => [k.station]
  | .holdOffExpiry k => [k.station]
  | .silentTimerExpiry a => [a]
  | .lostTimerExpiry a => [a]
  | _ => []

/-- A command is well formed: its frame passes check 2 of R158, and the addresses it names are stations'. -/
def Instr.wf (i : Instr) : Bool :=
  (match i.frame with
    | some f => Machine.Frame.wellFormed f
    | none => true) &&
  i.stations.all (fun a => Machine.isStation a.toNat)

end Sys2Proof
end

