-- ==== Sys2Proof/Safety.lean ====
section
/-! DEFINITION. The laws that the manual states of the station's state, block by block. A run is safe when every state of it keeps
them; each is stated in the terms of the rule it is named for, and holds of `State.reset`. After the laws stand the terms that the
statements of Sys2Proof/Certificates/Slice0/Obligations.lean use. -/

namespace Sys2Proof.Safety

open Sys2Proof.Machine

/-- FAULTN and the timers follow the station state (R32, R51, R109, R142, R163, R169, R171, R173). -/
abbrev LifeLaw (s : State) : Prop :=
  (s.station.faultn = .low ↔ s.station.mode = .fault) ∧
  (s.station.joinWait.isSome ↔ s.station.mode = .joining) ∧
  (s.station.release.isSome ↔ s.station.mode = .silenced) ∧
  (s.station.releaseReason.isSome ↔ s.station.mode = .silenced) ∧
  (s.station.clearing.isSome → s.station.mode = .active) ∧
  (s.sweeps.call.isSome ↔ s.station.mode = .active ∧ s.cfg.sweepPeriod ≠ 0) ∧
  (s.alerts.timer.isSome ↔ s.station.mode = .active) ∧
  (s.roster.presence.isSome ↔ s.station.mode = .joining ∨ s.station.mode = .active) ∧
  (s.station.mode = .unloaded ∨ s.station.mode = .loading → s.time = 0)

/-- What the station holds for the plant it holds in ACTIVE alone (R28, R135, R161, R176). -/
abbrev ServiceLaw (s : State) : Prop :=
  s.station.mode = .active ∨
  (s.converter.peers = [] ∧ s.converter.sweep = none ∧ s.converter.hold = none ∧ s.requester.wanted = [] ∧
    s.requester.holdOffs = [] ∧ s.requester.pending = [] ∧ s.queries = [] ∧ s.bus.refusals = [])

/-- The producers of frames (R150). -/
def producers : List Producer :=
  [.alertUnit, .sweepUnit, .requester, .converter, .refusalList, .queryService, .roster]

/-- The transmit queue keeps every quota, one frame at most is on the line, and each station state queues what it may (R150, R154,
R157, R161). -/
abbrev QueueLaw (s : State) : Prop :=
  (∀ q ∈ s.bus.queue, (Body.producer q.frame.body).isSome) ∧
  (∀ p ∈ producers, held p s.bus.queue ≤ p.quota) ∧
  (onLineFrames s.bus).length ≤ 1 ∧
  s.bus.refusals.length ≤ refusalCapacity ∧
  s.bus.errors ≤ errorLimit ∧
  (s.station.mode = .active ∨ s.bus.refusals = []) ∧
  (s.station.mode = .active ∨ s.station.mode = .joining ∨ s.bus.queue = []) ∧
  (s.station.mode = .joining → ∀ q ∈ s.bus.queue, Body.producer q.frame.body = some .roster)

/-- A job of class TRIGGER runs (R13). -/
def triggerRuns (c : Converter) : Bool := c.running.any (fun j => Job.cls j == .trigger)

/-- The hold has a TRIGGER result (R13). -/
def triggerHeld (c : Converter) : Bool := c.hold.any (fun r => Cause.cls r.cause == .trigger)

/-- The causes of the PEER jobs that wait, run or are suspended (R6). -/
def peerCauses (c : Converter) : List Cause :=
  ((c.peers ++ c.running.toList ++ c.suspended.toList).filter (fun j => Job.cls j == .peer)).map Job.cause

/-- The law that bounds the converter's places (R5, R6, R7, R13, R14). -/
abbrev ConverterLaw (s : State) : Prop :=
  (s.converter.trigger.all (fun j => Job.cls j == .trigger)) ∧
  (s.converter.sweep.all (fun j => Job.cls j == .sweep)) ∧
  (s.converter.cadence.all (fun j => Job.cls j == .cadence)) ∧
  (s.converter.peers.all (fun j => Job.cls j == .peer)) ∧
  s.converter.peers.length ≤ peerCapacity ∧
  (peerCauses s.converter).Nodup ∧
  (s.converter.suspended.all (fun j => Job.cls j != .trigger)) ∧
  (s.converter.hold.isSome → s.converter.running = none) ∧
  (s.converter.suspended.isSome → triggerRuns s.converter ∨ triggerHeld s.converter) ∧
  (s.converter.running = none ∧ s.converter.hold = none →
    s.converter.trigger = none ∧ s.converter.sweep = none ∧ s.converter.peers = [] ∧ s.converter.cadence = none)

/-- The fields of an entry go together (R65, R67). -/
abbrev EntryLaw (e : Entry) : Prop :=
  (e.state = .empty ↔ e.latest = none) ∧
  (e.state = .fresh ↔ e.timer.isSome) ∧
  (e.sweep.isSome → e.latest.isSome) ∧
  (e.pinned ∨ e.state ≠ .empty)

/-- The table holds at most 48 entries, one for a key (R64), each by R65. -/
abbrev TableLaw (s : State) : Prop :=
  Map.wf s.table ∧ s.table.length ≤ tableCapacity ∧ ∀ p ∈ s.table, EntryLaw p.2

/-- L is the number of the CURRENT tally (R44). -/
abbrev NumberLaw (s : State) : Prop := s.sweeps.last = s.sweeps.current.map Tally.number

/-- The reported set is within the expected set, and an OPEN tally still misses somebody (R55). -/
abbrev TallyLaw (t : Tally) : Prop := subset t.reported t.expected ∧ (t.state = .opened → t.reported ≠ t.expected)

/-- The tallies and the deadline timer (R44, R55, R61, R62, R63). -/
abbrev SweepLaw (s : State) : Prop :=
  NumberLaw s ∧
  (∀ t ∈ s.sweeps.current, TallyLaw t) ∧
  (∀ t ∈ s.sweeps.previous, TallyLaw t ∧ t.state ≠ .opened) ∧
  (s.station.mode ≠ .fault → (s.sweeps.deadline.isSome ↔ (openTally s).isSome))

/-- Every record asserts or waits for an acknowledgement, one record for a watch, one final announcement for a watch without a
record (R101, R105). -/
abbrev AlertLaw (s : State) : Prop :=
  (s.alerts.queue.map AlertRecord.watch).Nodup ∧
  (∀ r ∈ s.alerts.queue, Causes.isEmpty r.causes = false ∨ r.acknowledged = false) ∧
  (s.alerts.finals.map FinalAnnouncement.watch).Nodup ∧
  (∀ f ∈ s.alerts.finals, f.watch ∉ s.alerts.queue.map AlertRecord.watch)

/-- Group states and alarm lines follow the asserter maps (R113, R117). -/
abbrev GroupLaw (s : State) : Prop :=
  (∀ g ∈ s.alerts.groups, Map.wf g.asserters ∧ g.active = (g.quorum != 0 && decide (g.quorum ≤ g.asserters.length))) ∧
  s.alerts.ala = s.alerts.groups.any (fun g => g.active && g.lineA) ∧
  s.alerts.alb = s.alerts.groups.any (fun g => g.active && g.lineB)

/-- The pending table holds at most 4 entries, no two with one tag, no two with one target, each at attempt 1 to 3 (R124). The keys that
the table, the hold-offs and the wanted map are kept under are those of 32 addresses (R181). -/
abbrev RequesterLaw (s : State) : Prop :=
  s.requester.pending.length ≤ pendingCapacity ∧
  (s.requester.pending.map PendingEntry.tag).Nodup ∧
  (s.requester.pending.map PendingEntry.target).Nodup ∧
  (∀ e ∈ s.requester.pending, 1 ≤ e.attempts ∧ e.attempts ≤ maxAttempts) ∧
  (∀ p ∈ s.table, p.1 < 256) ∧ (∀ p ∈ s.requester.holdOffs, p.1 < 256) ∧ ∀ p ∈ s.requester.wanted, p.1 < 32

/-- A slot's timers follow its state (R138, R141). -/
abbrev SlotLaw (p : Peer) : Prop := (p.quiet.isSome ↔ p.state = .present) ∧ (p.gone.isSome ↔ p.state ≠ .lost)

/-- The own slot is SELF while the station is configured and works, and each peer slot keeps its law (R137, R138). -/
abbrev RosterLaw (s : State) : Prop :=
  Map.wf s.roster.peers ∧ (∀ p ∈ s.roster.peers, SlotLaw p.2) ∧ (s.works → s.roster.self = some s.own)

/-- A frame with this key wins the line from every frame the station has on it (R148, R149); with none on it, every frame is heard. -/
abbrev Wins (s : State) (key : Nat) : Prop := ∀ q ∈ onLineFrames s.bus, key < Frame.key q.frame

/-- A frame of this source and body reaches a station that is configured and works, and its source is a peer (R149, R158). -/
abbrev Reaches (s : State) (src : Addr) (body : Body) : Prop :=
  s.works = true ∧ isStation src.toNat = true ∧ src ≠ s.own ∧ Wins s (Frame.key { src := src, dst := 0, body := body })

/-- A frame that reaches the station from a peer that the roster does not hold LOST (R139). -/
abbrev FromPeer (s : State) (src : Addr) (body : Body) : Prop := Reaches s src body ∧ holdsLost s src.toNat = false

/-- What the roster holds of a peer's latest PRESENCE (R138). -/
def knownInfo (s : State) (src : Addr) : Option Presence := (s.roster.peers.find src.toNat).bind Peer.info

/-- The judging period of a peer (R138): its presence period, or 1000 ms. -/
def silencePeriod : Option Presence → Nat
  | some p => periodMs p.period
  | none => 1000

/-- The state in which the roster has taken a frame from a peer not LOST and nothing else has changed (R139), one open order having been
settled on the way (log entry 6). -/
def heardFrom (s : State) (src : Addr) (info : Option Presence) : State :=
  let slot : Peer :=
    { state := .present, heard := s.time, info := info, quiet := some (3 * silencePeriod info), gone := some (6 * silencePeriod info) }
  { s with draws := s.draws + 1, roster := { s.roster with peers := s.roster.peers.set src.toNat slot } }

/-- An ACTIVE station with a non-empty sweep set measures for the sweeps it accepts (R8, R55). -/
abbrev MeasuresSweeps (s : State) : Prop := s.station.mode = .active ∧ s.cfg.sweepSet ≠ 0

/-- A tally opened now expects the station a of the roster (R55): PRESENT, with the participation flag set by its last PRESENCE. -/
abbrev ExpectsAt (s : State) (a : Nat) : Prop :=
  ∃ q i, (a, q) ∈ s.roster.peers ∧ q.state = .present ∧ q.info = some i ∧ i.participation = true

/-- The state after a station without watches has accepted sweep n with the expected set E (R50): L, the call timer, the own SWEEP frames,
the tallies, the deadline and the own job. -/
def sweepAccepted (n : Count) (E : StationSet) (s : State) : State :=
  let job : Job := { channels := s.cfg.sweepSet, samples := s.cfg.sweepSamples, cause := .sweep n, progress := [] }
  { s with
    sweeps := {
      last := some n
      call := s.sweeps.call.map (fun _ => s.cfg.sweepPeriod + s.own.toNat * 4)
      current := some { number := n, state := if E = 0 then .complete else .opened, expected := E, reported := 0, extra := 0 }
      previous := s.sweeps.current.map (fun c => if c.state = .opened then { c with state := .superseded } else c)
      deadline := if E = 0 then none else some s.cfg.deadline }
    bus := { s.bus with
      queue := (s.bus.queue.filter (fun q => !QueuedFrame.isOf .sweepUnit q || q.onLine)).map
        (fun q => if QueuedFrame.isOf .sweepUnit q then { q with withdrawn := true } else q) }
    converter := if MeasuresSweeps s then Converter.proceed { s.converter with sweep := some job } else s.converter
    counters := if MeasuresSweeps s ∧ s.converter.sweep.isSome = true then
      { s.counters with sweepsSuperseded := satInc s.counters.sweepsSuperseded } else s.counters }

/-- A frame of this station as it enters the transmit queue (R150, R153). -/
def queuedFrame (s : State) (dst : Addr) (body : Body) : QueuedFrame :=
  { frame := { src := s.own, dst := dst, body := body }, attempts := 0, onLine := false, withdrawn := false, orphan := false }

/-- The state with a frame of this station added to the transmit queue, and nothing else changed. -/
def withFrame (s : State) (dst : Addr) (body : Body) : State :=
  { s with bus := { s.bus with queue := s.bus.queue ++ [queuedFrame s dst body] } }

/-- The entry of a key after an update (R68): the sweep part is written by cause SWEEP alone (R70). -/
def renewedEntry (s : State) (it : Item) (cause : Cause) (e : Entry) : Entry where
  pinned := e.pinned
  state := .fresh
  unreachable := false
  latest := some { value := it.value, flags := it.flags, cause := cause, stamp := s.time }
  sweep := match cause with
    | .sweep n => some { value := it.value, flags := it.flags, number := n }
    | .measure .. => e.sweep
    | .trigger _ => e.sweep
    | .cadence _ => e.sweep
  timer := some s.cfg.freshness

/-- The table T is that of s with the keys of the items renewed, and every other key as it was (R68, R69). -/
abbrev RenewedBy (s : State) (station : Addr) (cause : Cause) (items : List Item) (T : Map Entry) : Prop :=
  ∀ k, T.find k =
    match items.find? (fun it => keyIx station it.channel.toNat == k) with
    | some it => (s.table.find k).map (renewedEntry s it cause)
    | none => s.table.find k

/-- Each item names a channel of its own, and the table holds an entry for the key of each. -/
abbrev KeysHeld (s : State) (station : Addr) (items : List Item) : Prop :=
  (items.map Item.channel).Nodup ∧ ∀ it ∈ items, (s.table.find (keyIx station it.channel.toNat)).isSome = true

/-- The keys of one station that a set of channels names, marked unreachable and held off, and nothing else (R132). -/
abbrev GivenUp (s : State) (station : Addr) (channels : ChannelSet) (T : Map Entry) (H : Map Nat) : Prop :=
  (∀ k, T.find k = if ixStation k = station.toNat ∧ setHas channels (ixChannel k) then
      (s.table.find k).map (fun e => { e with unreachable := true }) else s.table.find k) ∧
  (∀ k, H.find k = if ixStation k = station.toNat ∧ setHas channels (ixChannel k) then some 5000 else s.requester.holdOffs.find k)

/-- The requester has nothing to ask for and nothing to send (R126, R127). -/
abbrev RequesterQuiet (s : State) : Prop := s.requester.wanted = [] ∧ ∀ e ∈ s.requester.pending, e.stage ≠ .due

/-- The entry e stands in the pending table between l1 and l2, and no two entries hold one tag (R124). -/
abbrev Awaits (s : State) (l1 : List PendingEntry) (e : PendingEntry) (l2 : List PendingEntry) : Prop :=
  s.requester.pending = l1 ++ e :: l2 ∧ (s.requester.pending.map PendingEntry.tag).Nodup

/-- The hold-offs H are those of s without the keys of the items (R123). -/
abbrev HoldOffsEnded (s : State) (station : Addr) (items : List Item) (H : Map Nat) : Prop :=
  ∀ k, H.find k = if k ∈ items.map (fun it => keyIx station it.channel.toNat) then none else s.requester.holdOffs.find k

/-- The MEASURE of an entry asks for its channels in ascending order with one sample (R127). -/
def askFor (tag : Tag) (channels : ChannelSet) : Body :=
  .measure tag 1 (((List.range 8).filter (fun c => channels.getLsbD c)).map (BitVec.ofNat 8))

/-- The PRESENCE that the station forms (R143). -/
def ownPresence (s : State) : Presence where
  active := decide (s.station.mode = .active)
  participation := decide (s.cfg.sweepSet ≠ 0)
  period := s.cfg.presence
  signature := s.cfg.signature
  lastSweep := s.sweeps.last
  alerts := BitVec.ofNat 8 (s.alerts.queue.filter (fun r => r.causes.threshold || r.causes.sourceLost)).length

/-- No item of the alert unit waits for an ALERT frame (R107). -/
abbrev NothingToAnnounce (s : State) : Prop :=
  (∀ r ∈ s.alerts.queue, r.announce = true → r.frame.isSome = true) ∧ ∀ f ∈ s.alerts.finals, f.frame.isSome = true

/-- The content of the ALERT that a record's announcement forms (R106). -/
def recordAlert (s : State) (r : AlertRecord) : Alert :=
  let absent : BitVec 16 := 0x8000
  { watch := BitVec.ofNat 4 r.watch
    group := (s.cfg.watches[r.watch]?).bind WatchConfig.group
    cleared := decide (r.causes = { threshold := false, sourceLost := false })
    threshold := r.causes.threshold
    sourceLost := r.causes.sourceLost
    level := ((s.cfg.watches[r.watch]?).map WatchConfig.level).getD 0
    zone := r.zone
    sequence := r.sequence
    value := if r.causes = { threshold := false, sourceLost := true } then absent else
      match r.value with
      | some x => BitVec.ofInt 16 x
      | none => absent }

/-- The entry that an update creates for a key without one, before it is written (R67). -/
def emptyEntry : Entry where
  pinned := false
  state := .empty
  unreachable := false
  latest := none
  sweep := none
  timer := none

/-- The state after a refusal has been handed to the refusal list (R157): dropped and counted when the list holds 4; otherwise it joins
the tail, and with the REFUSE place free the head becomes a frame. -/
def handedOver (s : State) (dst : Addr) (kind : RefusedKind) (reason : BitVec 3) (tag : Tag) : State :=
  let new : RefusalItem := { dst := dst, kind := kind, tag := tag, reason := reason }
  if 4 ≤ s.bus.refusals.length then
    { s with counters := { s.counters with refusalsDropped := satInc s.counters.refusalsDropped } }
  else if held .refusalList s.bus.queue = 0 then
    match s.bus.refusals with
    | [] => withFrame s dst (.refuse kind reason tag)
    | r :: rs => withFrame { s with bus := { s.bus with refusals := rs ++ [new] } } r.dst (.refuse r.kind r.reason r.tag)
  else { s with bus := { s.bus with refusals := s.bus.refusals ++ [new] } }

/-- The keys that a watch names (R81). -/
def watchKeys (c : WatchConfig) : List Nat := (c.sourceA :: c.sourceB.toList).map Key.ix

/-- The entry of a key is marked unreachable. -/
abbrev Marked (s : State) (k : Nat) : Prop := ∃ e, s.table.find k = some e ∧ e.unreachable = true

/-- The groups G and the lines A and B are those of s after watch w has joined the station's own set in the asserter map of its group,
or left it (R113, R114, R117); a watch without a group touches none. -/
abbrev OwnAsserts (s : State) (w : Nat) (c : WatchConfig) (joins : Bool) (G : List Group) (A B : Bool) : Prop :=
  match c.group with
  | none => G = s.alerts.groups ∧ A = s.alerts.ala ∧ B = s.alerts.alb
  | some g => ∃ gr m, s.alerts.groups[g.toNat]? = some gr ∧
    (∀ x, Map.find m x =
      if x = s.own.toNat then
        let before := (gr.asserters.find x).getD 0
        let after : WatchSet := if joins then before ||| BitVec.twoPow 16 w else before &&& ~~~ BitVec.twoPow 16 w
        if after = 0 then none else some after
      else gr.asserters.find x) ∧
    G = s.alerts.groups.set g.toNat { gr with asserters := m, active := decide (gr.quorum ≠ 0 ∧ gr.quorum ≤ m.length) } ∧
    A = G.any (fun g => g.active && g.lineA) ∧ B = G.any (fun g => g.active && g.lineB)

/-- The payload lengths that Table 12-1 allows for a class and a kind code; none for a pair that is no kind. -/
def allowedLengths : Nat → Nat → List Nat
  | 3, 1 => [6]
  | 1, 2 => [2]
  | 1, 3 => [2, 3, 4, 5, 6, 7, 8, 9, 10]
  | 2, 4 => [6, 9, 12, 15, 18, 21, 24, 27]
  | 2, 5 => [2]
  | 0, 6 => [6]
  | 0, 7 => [2]
  | 3, 8 => [2, 3, 4]
  | 2, 9 => (List.range 31).map (· + 2)
  | _, _ => []

/-- Every byte that the content has at a place passes a test. -/
abbrev ByteIn (content : List Byte) (i : Nat) (p : Nat → Prop) : Prop := ∀ b, content[i]? = some b → p b.toNat

/-- The word that the content has at a place passes a test. -/
abbrev WordIn (content : List Byte) (i : Nat) (p : Int → Prop) : Prop :=
  ∀ h l, content[i]? = some h → content[i + 1]? = some l → p (h ++ l : BitVec 16).toInt

/-- The byte at a place has a bit set. -/
abbrev HasBit (content : List Byte) (i n : Nat) : Prop := ∃ b, content[i]? = some b ∧ b.getLsbD n = true

/-- A signed value, or 8000h for none (R181). -/
abbrev valueOrNone (x : Int) : Prop := x = -32768 ∨ (-4095 ≤ x ∧ x ≤ 4095)

/-- The numeric fields of a REPLY's content lie in their ranges (R182, Table 12-3 and the chapters that own the fields), as far as the
content has them; what R182 does not name is let pass (log entries 15 and 16). -/
def ReplyInRange (kind : BitVec 3) (content : List Byte) : Prop :=
  match kind.toNat with
  | 0 => ByteIn content 0 (· ≤ 2) ∧ (content[0]? = some 0 →
      ByteIn content 4 (· ≤ 3) ∧ ByteIn content 10 (· ≤ 6) ∧ ByteIn content 11 (· ≤ 10) ∧ ByteIn content 12 (· ≤ 4) ∧
      ByteIn content 13 (· ≤ 4) ∧ ByteIn content 14 (· ≤ 16) ∧ ByteIn content 15 (· ≤ 2))
  | 1 => ByteIn content 0 (fun k => 8 ≤ k ∧ k < 248) ∧
      (HasBit content 1 4 → (∃ c, content[4]? = some c ∧ c.toNat % 4 = 1) → ByteIn content 5 (fun a => 1 ≤ a ∧ a ≤ 30))
  | 2 => ByteIn content 0 (· ≤ 15) ∧ ByteIn content 1 (· ≤ 16) ∧ ∀ j < 4, WordIn content (6 * j + 6) valueOrNone
  | 3 => ByteIn content 0 (· ≤ 15) ∧ ByteIn content 2 (fun k => 8 ≤ k ∧ k < 248) ∧ ByteIn content 3 (· < 248) ∧
      (HasBit content 1 6 → WordIn content 4 (fun x => -4095 ≤ x ∧ x ≤ 4095 ∧ (HasBit content 1 0 ∨ 0 ≤ x))) ∧
      (HasBit content 1 7 → WordIn content 6 (fun x => -4095 ≤ x ∧ x ≤ 4095 ∧ (HasBit content 1 0 ∨ 0 ≤ x))) ∧
      ByteIn content 9 (fun n => 1 ≤ n ∧ n ≤ 8) ∧ ByteIn content 10 (fun g => g ≤ 7 ∨ g = 255) ∧
      (HasBit content 11 4 → ByteIn content 12 (fun n => 1 ≤ n ∧ ∃ p, content[9]? = some p ∧ n ≤ p.toNat)) ∧
      WordIn content 15 valueOrNone
  | 5 => ByteIn content 0 (· ≤ 7) ∧ ByteIn content 1 (fun b => b % 16 ≤ 8)
  | 6 => ByteIn content 0 (fun a => 1 ≤ a ∧ a ≤ 30) ∧ (HasBit content 1 7 → ByteIn content 9 (· ≤ 16))
  | _ => True

/-! ### What each REPLY holds, byte by byte (Table 12-3) -/

/-- One byte. -/
def b8 (n : Nat) : Byte := BitVec.ofNat 8 n

/-- Two bytes, high byte first. -/
def b16 (n : Nat) : List Byte := [b8 (n / 256), b8 n]

/-- Four bytes, high byte first. -/
def b32 (n : Nat) : List Byte := [b8 (n / 16777216), b8 (n / 65536), b8 (n / 256), b8 n]

/-- 1 for a bit that is set. -/
def one (p : Prop) [Decidable p] : Nat := if p then 1 else 0

/-- A signed word, 8000h for none. -/
def b16i : Option Int → List Byte
  | none => b16 0x8000
  | some x => b16 (BitVec.ofInt 16 x).toNat

/-- The number of a zone. -/
def zoneNo : Zone → Nat
  | .unknown => 0
  | .below => 1
  | .inside => 2
  | .above => 3

/-- A value word. -/
def valueBytes (v : Value) (q : Quality) : List Byte :=
  b16 (v.toNat + 4096 * one q.clippedLow + 8192 * one q.clippedHigh + 16384 * one q.averaged)

/-- A cause. -/
def causeTriple : Cause → List Byte
  | .sweep n => b8 0 :: b16 n.toNat
  | .measure r t => [b8 1, r, t]
  | .trigger n => b8 2 :: b16 n.toNat
  | .cadence n => b8 3 :: b16 n.toNat

/-- STATUS part 0. -/
def status0 (s : State) : List Byte :=
  let mode := match s.station.mode with
    | .unloaded => 0
    | .loading => 1
    | .joining => 2
    | .active => 3
    | .silenced => 4
    | .fault => 5
  let (fault, offset) := match s.station.lastFault with
    | none => (0, 0)
    | some .imageAbsent => (1, 0)
    | some .imageCheck => (2, 0)
    | some (.imageRange o) => (3, o)
    | some .addressConflict => (4, 0)
  let c := s.converter
  let doing := if c.hold.isSome then 3 else if c.suspended.isSome then 2 else if c.running.isSome then 1 else 0
  let places := one (c.trigger.isSome) + 2 * one (c.sweep.isSome) + 4 * one (c.cadence.isSome) + 8 * one (c.running.isSome) +
    16 * one (c.suspended.isSome) + 32 * one (c.hold.isSome)
  [b8 0, b8 mode, b8 (128 * one (s.station.startCause = .line) + fault), b8 offset, b8 s.station.conflicts,
    b8 (one (s.sweeps.last.isSome))] ++ b16 (s.sweeps.last.getD 0).toNat ++
  [b8 doing, b8 places, b8 c.peers.length, b8 (s.bus.queue.length + 1), b8 s.bus.refusals.length, b8 s.requester.pending.length,
    b8 s.alerts.queue.length, b8 s.queries.length]

/-- STATUS parts 1 and 2: the counters in the order of Table 11-2. -/
def status12 (part : Nat) (s : State) : List Byte :=
  let k := s.counters
  b8 part :: (if part = 1
    then [k.rxCheckErrors, k.rxMalformed, k.txFailures, k.refusalsDropped, k.measureRefused, k.requestsIgnored, k.queriesDropped,
      k.triggerOverruns]
    else [k.cadenceSkips, k.sweepsSuperseded, k.staleSweeps, k.lateResults, k.extraReports, k.evictions, k.unmatchedAcks,
      k.unexpectedReply]).flatMap (fun c => b16 c.toNat)

/-- A VALUE reply: the key, the entry byte, the latest part with its age, the sweep part (R80). -/
def valueReply (s : State) (k : Nat) (e : Entry) : List Byte :=
  let state := match e.state with
    | .empty => 0
    | .fresh => 1
    | .stale => 2
  [b8 k, b8 (state + 4 * one e.unreachable + 8 * one e.pinned + 16 * one (e.latest.isSome) + 32 * one (e.sweep.isSome))] ++
  (match e.latest with
    | some l => valueBytes l.value l.flags ++ causeTriple l.cause ++ b16 (min (s.time - l.stamp).toNat 65535)
    | none => []) ++
  (match e.sweep with
    | some p => valueBytes p.value p.flags ++ b16 p.number.toNat
    | none => [])

/-- An ALERTS reply: the start, the total, and up to four records from the start on (R121). -/
def alertsReply (s : State) (start : Nat) : List Byte :=
  [b8 start, b8 s.alerts.queue.length] ++ ((s.alerts.queue.drop start).take 4).flatMap (fun r =>
    let c := s.cfg.watches[r.watch]?
    let group := c.bind WatchConfig.group
    [b8 (r.watch % 16 + 16 * (group.getD 0).toNat + 128 * one (group.isSome)),
      b8 (128 * one r.acknowledged + 64 * one r.causes.threshold + 32 * one r.causes.sourceLost +
        8 * ((c.map WatchConfig.level).getD 0).toNat + 2 * zoneNo r.zone + one r.announce)] ++
    b16 r.sequence.toNat ++ b16i r.value)

/-- A WATCH reply: the index, the watch's ten image bytes, its run-time fields (R100). -/
def watchReply (s : State) (w : Nat) (c : WatchConfig) (r : WatchRun) : List Byte :=
  let image := ((s.station.image.map Image.bytes).getD []).drop (29 + 10 * w)
  let threshold := one ((r.zone = .above ∧ c.crossing ≠ .falling) ∨ (r.zone = .below ∧ c.crossing ≠ .rising))
  let lost := one (∃ k ∈ watchKeys c, (s.table.find k).map Entry.unreachable = some true)
  let candidate := match r.candidate with
    | some k => (4 * zoneNo k.zone + 16, k.count)
    | none => (0, 0)
  b8 w :: image.take 10 ++ [b8 (zoneNo r.zone + candidate.1 + 32 * threshold + 64 * lost), b8 candidate.2] ++ b16 r.missed.toNat ++
    b16i r.last

/-- A TALLY reply: which record, and its fields (R62). -/
def tallyReply (which : Nat) (t : Tally) : List Byte :=
  let state := match t.state with
    | .opened => 0
    | .complete => 1
    | .incomplete => 2
    | .superseded => 3
  b8 which :: b16 t.number.toNat ++ [b8 state] ++ b32 t.expected.toNat ++ b32 t.reported.toNat ++ b16 t.extra.toNat

/-- A GROUP reply but for its station set: the group and its byte before it, the sets of the first twelve stations after it (R121, R183). -/
def groupReply (g : Nat) (gr : Group) (stations : StationSet) : List Byte :=
  [b8 g, b8 (gr.quorum + 16 * one gr.lineA + 32 * one gr.lineB + 64 * one gr.active)] ++ b32 stations.toNat ++
    (gr.asserters.take 12).flatMap (fun p => b16 p.2.toNat)

/-- The payload of a PRESENCE (Table 12-2). -/
def presencePayload (p : Presence) : List Byte :=
  b8 (128 * one p.active + 64 * one p.participation + 32 * one (p.lastSweep.isSome) + p.period.toNat) :: b16 p.signature.toNat ++
    b16 (p.lastSweep.getD 0).toNat ++ [p.alerts]

/-- A ROSTER reply for a peer's slot: its state, its age, its optional fields (R147). -/
def peerReply (s : State) (a : Nat) : Option Peer → List Byte
  | none => [b8 a, b8 0, b8 0, b8 0]
  | some p =>
    let state := match p.state with
      | .present => 1
      | .silent => 2
      | .lost => 3
    [b8 a, b8 (state + 64 + 128 * one (p.info.isSome))] ++ b16 (min (s.time - p.heard).toNat 65535) ++
      (match p.info with
        | some i => presencePayload i
        | none => [])

/-- The REPLY formed now to a query (R177, R178): its content, or NOT_HELD. -/
def replyOf (s : State) (kind : BitVec 3) (tag : Tag) (arg : QueryArg) : Body :=
  match replyContent kind arg s with
  | some content => .reply tag kind false content
  | none => .reply tag kind true []

/-- The QUERY command of a kind (Table 12-2). -/
def queryCommand (kind : BitVec 3) (src dst : Addr) (tag : Tag) (arg : QueryArg) : Instr :=
  match kind.toNat with
  | 0 => .queryStatus src dst tag arg
  | 1 => .queryValue src dst tag arg
  | 2 => .queryAlerts src dst tag arg
  | 3 => .queryWatch src dst tag arg
  | 4 => .queryTally src dst tag arg
  | 5 => .queryGroup src dst tag arg
  | 6 => .queryRoster src dst tag arg
  | _ => .queryUnknownKind src dst tag arg

/-- What every block does on leaving ACTIVE (R170): its work for the plant is gone and its timers of ACTIVE have stopped. -/
abbrev LeftActive (t : State) : Prop :=
  t.converter.peers = [] ∧ t.converter.sweep = none ∧ t.converter.hold = none ∧ t.bus.queue = [] ∧ t.bus.refusals = [] ∧
  t.requester.wanted = [] ∧ t.requester.holdOffs = [] ∧ t.requester.pending = [] ∧ t.queries = [] ∧ t.sweeps.call = none ∧
  t.alerts.timer = none ∧ t.roster.presence = none ∧ t.roster.due = false ∧ t.station.clearing = none

/-- The state t is s after an entry into FAULT with this code (R174): every block as its chapter gives it. -/
abbrev Faulted (code : FaultCode) (s t : State) : Prop :=
  t.station = { s.station with
    mode := .fault, lastFault := some code, faultn := .low, joinWait := none, release := none, releaseReason := none,
    clearing := none, reading := [] } ∧
  t.time = s.time ∧ t.trigger = { s.trigger with debounce := none } ∧ t.cadence = { s.cadence with timer := none } ∧
  t.converter = Converter.empty ∧ t.sweeps = { s.sweeps with call := none, deadline := none } ∧ t.table = [] ∧ t.watches = [] ∧
  t.alerts.queue = [] ∧ t.alerts.finals = [] ∧ t.alerts.timer = none ∧ t.alerts.seq = s.alerts.seq ∧
  t.alerts.ala = false ∧ t.alerts.alb = false ∧ (∀ g ∈ t.alerts.groups, g.asserters = [] ∧ g.active = false) ∧
  t.requester = { s.requester with wanted := [], holdOffs := [], pending := [] } ∧
  t.roster = { s.roster with peers := [], presence := none, due := false } ∧
  t.bus = { s.bus with queue := [], refusals := [], flushed := none } ∧ t.queries = [] ∧ t.counters = s.counters ∧
  t.draws = s.draws ∧ t.pending = s.pending

/-- The frame q is the station's frame on the line: l1 stands before it in the queue, l2 after it. -/
abbrev OnLine (s : State) (l1 : List QueuedFrame) (q : QueuedFrame) (l2 : List QueuedFrame) : Prop :=
  s.bus.queue = l1 ++ q :: l2 ∧ q.onLine = true ∧ ∀ x ∈ l1, x.onLine = false

end Sys2Proof.Safety
end

