-- ==== Sys2Proof/Certificates/Slice0/Obligations.lean ====
section
/-! DEFINITION. What is stated of the station: one proposition an obligation, each from the rules its docstring names. A received frame
that the roster and another block take leaves one open order settled, whichever it was (log entry 6): `State.draws` rises. -/

open Sys2Proof Sys2Proof.Machine Sys2Proof.Safety

/-! ## Commands, resets, loading -/

/-- A step takes the command at the front of the queue and runs it with the queue's rest; with an empty queue the block idles (the model's
choice for a block without a tick of its own, log entry 1). -/
def Obligations.StepRunsFrontCommand : Prop :=
  (∀ (s : State) (c : Instr) (rest : List Instr), s.pending = c :: rest → step s = exec c { s with pending := rest }) ∧
  ∀ s : State, s.pending = [] → step s = .next s

/-- POWER_ON_RESET, and LINE_RESET on a line that is high (R164, R165): every block as after reset, the start record by its table; the input
levels are not the station's to reset (log entries 4 and 5). A line that is low cannot be driven low, and nothing changes (the model's
choice, log entry 2). -/
def Obligations.ResetsReturnEveryBlock : Prop :=
  ∀ s : State,
    exec .powerOnReset s = .next { State.reset with
      station := { State.reset.station with startCause := .power, lastFault := none, rstnHigh := s.station.rstnHigh }
      trigger := { State.reset.trigger with line := s.trigger.line }
      draws := s.draws, pending := s.pending } ∧
    (s.station.rstnHigh = true → exec .lineReset s = .next { State.reset with
      station := { State.reset.station with startCause := .line, lastFault := s.station.lastFault, rstnHigh := false }
      trigger := { State.reset.trigger with line := s.trigger.line }
      draws := s.draws, pending := s.pending }) ∧
    (s.station.rstnHigh = false → exec .lineReset s = .next s)

/-- The state right after reset keeps every law of Sys2Proof/Safety.lean. -/
def Obligations.ResetKeepsEveryLaw : Prop :=
  LifeLaw State.reset ∧ ServiceLaw State.reset ∧ QueueLaw State.reset ∧ ConverterLaw State.reset ∧ TableLaw State.reset ∧
  SweepLaw State.reset ∧ AlertLaw State.reset ∧ GroupLaw State.reset ∧ RequesterLaw State.reset ∧ RosterLaw State.reset

/-- RSTN_HIGH in UNLOADED starts the read, and CONFIG_BYTE_GIVEN adds a byte to it while the announced length has not been read (R166,
R184). Nothing else changes. -/
def Obligations.LoadStartsAndReadsBytes : Prop :=
  ∀ (s : State) (b : Byte),
    (s.station.mode = .unloaded →
      exec .rstnHigh s = .next { s with station := { s.station with rstnHigh := true, mode := .loading, reading := [] } }) ∧
    (s.station.mode = .loading →
      ((s.station.reading ++ [b]).length < 2 ∨ (s.station.reading ++ [b]).length < imageByte (s.station.reading ++ [b]) 1) →
      exec (.configByteGiven b) s = .next { s with station := { s.station with reading := s.station.reading ++ [b] } })

/-- A byte left ungiven fails the load with IMAGE_ABSENT, and a last byte that completes an unsound image fails it with the fault that
the first failing check names (R166, R167, R184): the station enters FAULT (R174). The kind marker and the length come first, then the
check value, then the ranges, whose offsets come in the order given here. -/
def Obligations.FailedLoadEntersFault : Prop :=
  (∀ (s : State) (b : Byte) (code : FaultCode), s.station.mode = .loading →
    (∃ t, exec .configByteUngiven s = .next t ∧ Faulted .imageAbsent s t) ∧
    (2 ≤ (s.station.reading ++ [b]).length → imageByte (s.station.reading ++ [b]) 1 ≤ (s.station.reading ++ [b]).length →
      imageFault (s.station.reading ++ [b]) = some code → ∃ t, exec (.configByteGiven b) s = .next t ∧ Faulted code s t)) ∧
  ∀ bytes : List Byte,
    let n := imageByte bytes 1
    let marked := imageByte bytes 0 = 0xA7 ∧ ∃ w ≤ 16, n = 31 + 10 * w
    let checks := checkValue (bytes.take (n - 2)) = ((bytes[n - 2]?).getD 0 ++ (bytes[n - 1]?).getD 0 : BitVec 16)
    (imageFault bytes = some .imageAbsent ↔ ¬ marked) ∧
    (imageFault bytes = some .imageCheck ↔ marked ∧ ¬ checks) ∧
    (∀ o, imageFault bytes = some (.imageRange o) ↔ marked ∧ checks ∧
      ∃ l1 l2, rangeChecks bytes = l1 ++ (o, false) :: l2 ∧ ∀ c ∈ l1, c.2 = true) ∧
    imageFault bytes ≠ some .addressConflict ∧
    (rangeChecks bytes).map Prod.fst =
      2 :: (List.range 25).map (· + 4) ++
      (List.range (imageByte bytes 28)).flatMap (fun w =>
        [2, 1, 2, 1, 2, 3, 3, 5, 5, 7, 8, 9, 0].map (fun d => 29 + 10 * w + d)) ++ [28]

/-- The last byte of a sound image completes the load (R168): each block takes its part, and the station enters JOINING (R169) with a
PRESENCE in the transmit queue (R142). -/
def Obligations.SoundImageLoads : Prop :=
  ∀ (s : State) (b : Byte), s.station.mode = .loading → s.bus.queue = [] → s.alerts.queue = [] →
    2 ≤ (s.station.reading ++ [b]).length → imageByte (s.station.reading ++ [b]) 1 ≤ (s.station.reading ++ [b]).length →
    imageFault (s.station.reading ++ [b]) = none →
    let bytes := s.station.reading ++ [b]
    let c := settingsOf bytes
    let hello : Presence :=
      { active := false, participation := c.sweepSet != 0, period := c.presence, signature := c.signature,
        lastSweep := s.sweeps.last, alerts := 0 }
    ∃ t, exec (.configByteGiven b) s = .next t ∧
      t.station = { s.station with
        mode := .joining, image := some { bytes := bytes, settings := c }, reading := [],
        joinWait := some (2 * periodMs c.presence), release := none, releaseReason := none } ∧
      t.time = s.time ∧
      t.trigger = { s.trigger with accepted := if c.triggerSet = 0 then none else some s.trigger.line } ∧
      t.cadence = { s.cadence with timer := c.cadence } ∧
      (∀ k, t.table.find k = if k ∈ pinnedKeys c then
        some { pinned := true, state := .empty, unreachable := false, latest := none, sweep := none, timer := none } else none) ∧
      t.watches = c.watches.map (fun _ => { zone := .unknown, candidate := none, missed := 0, last := none }) ∧
      t.alerts = { s.alerts with
        groups := c.groups.map (fun g =>
          { quorum := g.quorum, lineA := g.lineA, lineB := g.lineB, asserters := [], active := false }),
        ala := false, alb := false } ∧
      t.roster = { s.roster with self := some c.own, presence := some (periodMs c.presence) } ∧
      t.bus = { s.bus with
        errors := 0,
        queue := [{ frame := { src := c.own, dst := 31, body := .presence hello }, attempts := 0, onLine := false,
                    withdrawn := false, orphan := false }] } ∧
      t.converter = s.converter ∧ t.sweeps = s.sweeps ∧ t.requester = s.requester ∧ t.queries = s.queries ∧
      t.counters = s.counters ∧ t.draws = s.draws ∧ t.pending = s.pending

/-- What every sound image codes is in range and consistent (R3, R81, R82, Table 10-3, Table 12-4). -/
def Obligations.SoundImageSettingsAreConsistent : Prop :=
  ∀ bytes : List Byte, imageFault bytes = none →
    let c := settingsOf bytes
    isStation c.own.toNat = true ∧
    subset c.triggerSet c.measurable = true ∧ subset c.sweepSet c.measurable = true ∧ subset c.cadenceSet c.measurable = true ∧
    c.debounce ∈ [0, 1, 4, 16] ∧ c.sweepPeriod ∈ [0, 250, 500, 1000, 2000, 5000, 10000] ∧
    50 ≤ c.deadline ∧ c.deadline ≤ 2000 ∧ (c.sweepPeriod ≠ 0 → c.deadline < c.sweepPeriod) ∧
    4 ≤ c.settle ∧ c.settle ≤ 64 ∧ 100 ≤ c.freshness ∧ c.freshness ≤ 25500 ∧ 20 ≤ c.reply ∧ c.reply ≤ 500 ∧
    c.alertRepeat ∈ [500, 1000, 2000, 5000] ∧
    c.groups.length = 8 ∧ (∀ g ∈ c.groups, g.quorum ≤ 8) ∧
    c.watches.length ≤ 16 ∧ imageByte bytes 1 = 31 + 10 * c.watches.length ∧
    (∀ w ∈ c.watches,
      (w.kind = .difference ↔ w.sourceB.isSome) ∧
      (∀ k, k = w.sourceA ∨ some k = w.sourceB → isStation k.station.toNat = true ∧
        (k.station = c.own → setHas c.measurable k.channel.toNat = true)) ∧
      (w.high.isSome ∨ w.low.isSome) ∧
      (∀ x, some x = w.high ∨ some x = w.low → -4095 ≤ x ∧ x ≤ 4095 ∧ (w.kind = .level → 0 ≤ x)) ∧
      (∀ h l, some h = w.high → some l = w.low → l < h ∧ (w.hysteresis : Int) < h - l) ∧
      w.hysteresis ≤ 255 ∧ 1 ≤ w.persistence ∧ w.persistence ≤ 8 ∧ w.level.toNat ≤ 2) ∧
    (pinnedTable c).length ≤ 40

/-! ## Time and local inputs -/

/-- TIME_BASE_ADVANCE (R32, R33): the station time advances by one in JOINING, ACTIVE and SILENCED, every running timer comes one advance
nearer to its expiry, and elsewhere nothing changes. A timer started with d has run down after d advances and not before; that a timer
that has run down waits for its expiry command is the model's choice (log entry 3). -/
def Obligations.TimeAdvanceCountsEveryTimer : Prop :=
  (∀ (d n : Nat), isDue ((tick^[n]) (some d)) = decide (d ≤ n)) ∧
  ∀ s : State,
    (s.works = false → exec .timeBaseAdvance s = .next s) ∧
    (s.works = true →
      let less := fun t : Timer => t.map (· - 1)
      exec .timeBaseAdvance s = .next { s with
        time := s.time + 1
        station := { s.station with
          joinWait := less s.station.joinWait, release := less s.station.release, clearing := less s.station.clearing }
        trigger := { s.trigger with debounce := less s.trigger.debounce }
        cadence := { s.cadence with timer := less s.cadence.timer }
        sweeps := { s.sweeps with call := less s.sweeps.call, deadline := less s.sweeps.deadline }
        table := s.table.map (fun p => (p.1, { p.2 with timer := less p.2.timer }))
        alerts := { s.alerts with timer := less s.alerts.timer }
        requester := { s.requester with
          holdOffs := s.requester.holdOffs.map (fun p => (p.1, p.2 - 1))
          pending := s.requester.pending.map (fun e => { e with stage := match e.stage with
            | .sent n => .sent (n - 1)
            | .backingOff n => .backingOff (n - 1)
            | .due => .due
            | .queued => .queued }) }
        roster := { s.roster with
          presence := less s.roster.presence
          peers := s.roster.peers.map (fun p => (p.1, { p.2 with quiet := less p.2.quiet, gone := less p.2.gone })) } })

/-- TRG_CHANGE (R37, R38): with a debounce of 0 a change is accepted at once (here one that is no edge, R39); otherwise a departure from
the accepted level starts the debounce timer and a return cancels it. -/
def Obligations.TrgChangeFollowsDebounce : Prop :=
  ∀ (s : State) (l a : Level), s.works = true → s.trigger.accepted = some a → s.trigger.line ≠ l →
    (s.cfg.debounce = 0 → l ≠ a → isEdge s.cfg.edge l = false →
      exec (.trgChange l) s = .next { s with trigger := { s.trigger with line := l, accepted := some l, debounce := none } }) ∧
    (s.cfg.debounce ≠ 0 → s.trigger.debounce = none → l ≠ a →
      exec (.trgChange l) s = .next { s with trigger := { s.trigger with line := l, debounce := some s.cfg.debounce } }) ∧
    (s.cfg.debounce ≠ 0 → s.trigger.debounce ≠ none → l = a →
      exec (.trgChange l) s = .next { s with trigger := { s.trigger with line := l, debounce := none } })

/-- An accepted edge advances the trigger count and offers a trigger (R39, R7): an IDLE converter starts the TRIGGER job at once (R14, R16),
and one with TRIGGER work in hand drops the offer as an overrun. With no TRIGGER work in hand the job takes the TRIGGER slot, and the converter
goes on: a running job or a held RESULT leaves it waiting there. The edge comes from TRG_CHANGE with a debounce of 0, or from
DEBOUNCE_EXPIRY, which also accepts a change that is no edge. -/
def Obligations.AcceptedEdgeStartsTriggerJob : Prop :=
  ∀ (s : State) (l a : Level), s.works = true → s.trigger.accepted = some a → a ≠ l →
    let n := s.trigger.count + 1
    let counted := fun line : Level => ({ line := line, accepted := some l, debounce := none, count := n } : TriggerInput)
    let job : Job := { channels := s.cfg.triggerSet, samples := s.cfg.triggerSamples, cause := .trigger n, progress := [] }
    let starts := { Converter.empty with running := some job }
    let waits := Converter.proceed { s.converter with trigger := some job }
    let overrun := { s.counters with triggerOverruns := satInc s.counters.triggerOverruns }
    (isEdge s.cfg.edge l = true → s.cfg.debounce = 0 → s.trigger.line ≠ l →
      (s.converter = Converter.empty → exec (.trgChange l) s = .next { s with trigger := counted l, converter := starts }) ∧
      (s.converter.trigger.isSome = true ∨ triggerRuns s.converter = true ∨ triggerHeld s.converter = true →
        exec (.trgChange l) s = .next { s with trigger := counted l, counters := overrun }) ∧
      (s.converter.trigger = none → triggerRuns s.converter = false → triggerHeld s.converter = false →
        exec (.trgChange l) s = .next { s with trigger := counted l, converter := waits })) ∧
    (isEdge s.cfg.edge l = true → s.trigger.debounce = some 0 →
      (s.converter = Converter.empty →
        exec .debounceExpiry s = .next { s with trigger := counted s.trigger.line, converter := starts }) ∧
      (s.converter.trigger.isSome = true ∨ triggerRuns s.converter = true ∨ triggerHeld s.converter = true →
        exec .debounceExpiry s = .next { s with trigger := counted s.trigger.line, counters := overrun }) ∧
      (s.converter.trigger = none → triggerRuns s.converter = false → triggerHeld s.converter = false →
        exec .debounceExpiry s = .next { s with trigger := counted s.trigger.line, converter := waits })) ∧
    (isEdge s.cfg.edge l = false → s.trigger.debounce = some 0 →
      exec .debounceExpiry s = .next { s with trigger := { s.trigger with accepted := some l, debounce := none } })

/-- CADENCE_TICK (R41, R12): the timer restarts and the count advances; with a cadence set an IDLE converter starts the CADENCE job, an
occupied slot makes the tick a skip, and an empty slot takes the job, which waits there while another runs or a RESULT is held. -/
def Obligations.CadenceTickOffersOrSkips : Prop :=
  ∀ s : State, s.works = true → s.cadence.timer = some 0 →
    let n := s.cadence.count + 1
    let ticked : Cadence := { timer := s.cfg.cadence, count := n }
    let job : Job := { channels := s.cfg.cadenceSet, samples := s.cfg.cadenceSamples, cause := .cadence n, progress := [] }
    (s.cfg.cadenceSet = 0 → exec .cadenceTick s = .next { s with cadence := ticked }) ∧
    (s.cfg.cadenceSet ≠ 0 → s.converter = Converter.empty →
      exec .cadenceTick s = .next { s with cadence := ticked, converter := { Converter.empty with running := some job } }) ∧
    (s.cfg.cadenceSet ≠ 0 → s.converter.cadence = none →
      exec .cadenceTick s = .next { s with
        cadence := ticked, converter := Converter.proceed { s.converter with cadence := some job } }) ∧
    (s.cfg.cadenceSet ≠ 0 → s.converter.cadence.isSome = true →
      exec .cadenceTick s = .next { s with
        cadence := ticked, counters := { s.counters with cadenceSkips := satInc s.counters.cadenceSkips } })

/-! ## Converter -/

/-- The value and the quality flags of a channel (R2). -/
def Obligations.ChannelValueAndFlags : Prop :=
  ∀ s0 s1 s2 s3 : Value,
    channelValue .one s0 s1 s2 s3 = s0 ∧
    (channelValue .four s0 s1 s2 s3).toNat = (s0.toNat + s1.toNat + s2.toNat + s3.toNat + 2) / 4 ∧
    qualityOf (samplesTaken .one s0 s1 s2 s3) =
      { clippedLow := decide (s0 = 0), clippedHigh := decide (s0 = 4095), averaged := false } ∧
    qualityOf (samplesTaken .four s0 s1 s2 s3) =
      { clippedLow := decide (s0 = 0 ∨ s1 = 0 ∨ s2 = 0 ∨ s3 = 0),
        clippedHigh := decide (s0 = 4095 ∨ s1 = 4095 ∨ s2 = 4095 ∨ s3 = 4095), averaged := true }

/-- CHANNEL_COMPLETION with channels remaining (R17, R18): the channel joins the progress list, and the job goes on, or it is suspended
for a pending TRIGGER job that it is not itself of the class of. The next channel is the lowest of the job's set that is not yet in its
progress list (R4). Nothing else changes. -/
def Obligations.ChannelCompletionContinuesOrPreempts : Prop :=
  (∀ (j : Job) (c : Nat), Job.nextChannel j = some c ↔
    setHas j.channels c = true ∧ (∀ it ∈ j.progress, it.channel.toNat ≠ c) ∧
      ∀ d < c, setHas j.channels d = true → ∃ it ∈ j.progress, it.channel.toNat = d) ∧
  ∀ (s : State) (s0 s1 s2 s3 : Value) (j : Job) (c d : Nat),
    s.converter.running = some j → Job.nextChannel j = some c →
    let item : Item :=
      { channel := BitVec.ofNat 3 c, value := channelValue j.samples s0 s1 s2 s3,
        flags := qualityOf (samplesTaken j.samples s0 s1 s2 s3) }
    let j' := { j with progress := j.progress ++ [item] }
    Job.nextChannel j' = some d →
    (s.converter.trigger = none ∨ Job.cls j = .trigger →
      exec (.channelCompletion s0 s1 s2 s3) s = .next { s with converter := { s.converter with running := some j' } }) ∧
    (∀ t, s.converter.trigger = some t → Job.cls j ≠ .trigger →
      exec (.channelCompletion s0 s1 s2 s3) s =
        .next { s with converter := { s.converter with suspended := some j', running := some t, trigger := none } })

/-- CHANNEL_COMPLETION of a job's last channel, at a station without watches (R21 to R24): the own entries are renewed by R68; a SWEEP job is
reported for the OPEN tally of its number, as an extra report, or late (R22, R56, R57); the RESULT enters the transmit queue, or the result
hold when the quota of 2 is full (R24), or is discarded outside ACTIVE (R23). Then the converter goes on: the suspended job resumes before any
pending one (R15), and of those the first of TRIGGER, SWEEP, the head of the PEER queue and CADENCE starts (R14). Nothing else changes. -/
def Obligations.LastChannelPublishesResult : Prop :=
  (∀ c : Converter, Converter.proceed c =
    if c.running.isSome ∨ c.hold.isSome then c
    else match c.suspended, c.trigger, c.sweep, c.peers, c.cadence with
      | some j, _, _, _, _ => { c with suspended := none, running := some j }
      | none, some j, _, _, _ => { c with trigger := none, running := some j }
      | none, none, some j, _, _ => { c with sweep := none, running := some j }
      | none, none, none, j :: js, _ => { c with peers := js, running := some j }
      | none, none, none, [], some j => { c with cadence := none, running := some j }
      | none, none, none, [], none => c) ∧
  ∀ (s : State) (s0 s1 s2 s3 : Value) (j : Job) (c : Nat),
    s.cfg.watches = [] → s.converter.running = some j → Job.nextChannel j = some c →
    let item : Item :=
      { channel := BitVec.ofNat 3 c, value := channelValue j.samples s0 s1 s2 s3,
        flags := qualityOf (samplesTaken j.samples s0 s1 s2 s3) }
    let items := j.progress ++ [item]
    Job.nextChannel { j with progress := items } = none → KeysHeld s s.own items →
    ∃ T, RenewedBy s s.own j.cause items T ∧
      let ended := { s with table := T, converter := Converter.proceed { s.converter with running := none } }
      let published : State :=
        if s.station.mode ≠ .active then ended
        else if held .converter s.bus.queue < 2 then withFrame ended 31 (.result j.cause items)
        else { s with
          table := T, converter := { s.converter with running := none, hold := some { cause := j.cause, items := items } } }
      (Job.cls j ≠ .sweep → exec (.channelCompletion s0 s1 s2 s3) s = .next published) ∧
      ∀ n, j.cause = .sweep n →
        (∀ t, s.sweeps.current = some t → t.state = .opened → t.number = n → setHas t.expected s.own.toNat = true →
          let R := setInsert t.reported s.own.toNat
          exec (.channelCompletion s0 s1 s2 s3) s = .next { published with
            sweeps := if R = t.expected
              then { s.sweeps with current := some { t with reported := R, state := .complete }, deadline := none }
              else { s.sweeps with current := some { t with reported := R } } }) ∧
        (∀ t, s.sweeps.current = some t → t.state = .opened → t.number = n → setHas t.expected s.own.toNat = false →
          exec (.channelCompletion s0 s1 s2 s3) s = .next { published with
            sweeps := { s.sweeps with current := some { t with extra := satInc t.extra } }
            counters := { s.counters with extraReports := satInc s.counters.extraReports } }) ∧
        ((∀ t, s.sweeps.current = some t → t.state ≠ .opened ∨ t.number ≠ n) →
          exec (.channelCompletion s0 s1 s2 s3) s = .next { published with
            counters := { s.counters with lateResults := satInc s.counters.lateResults } })

/-- RX_MEASURE at an ACTIVE station (R9, R10): the first check that fails names the refusal, which is counted and handed to the refusal list
(R157); otherwise the PEER job joins the tail of its queue, and the converter goes on (R14). -/
def Obligations.MeasureIsJudgedInOrder : Prop :=
  ∀ (s : State) (src : Addr) (tag : Tag) (samples : Byte) (channels : List Byte),
    FromPeer s src (.measure tag samples channels) → s.station.mode = .active → isStation s.own.toNat = true → channels.length ≤ 8 →
    let cause : Cause := .measure (src.setWidth 8) tag
    let verdict : Option (BitVec 3) :=
      if channels = [] ∨ ¬ channels.Nodup ∨ (samples ≠ 1 ∧ samples ≠ 4) then some 3
      else if ∃ c ∈ channels, 7 < c.toNat ∨ setHas s.cfg.measurable c.toNat = false then some 2
      else if ∃ j ∈ s.converter.peers ++ s.converter.running.toList ++ s.converter.suspended.toList, j.cause = cause then some 1
      else if 6 ≤ s.converter.peers.length then some 0
      else none
    let job : Job :=
      { channels := setOf 8 (channels.map BitVec.toNat), samples := if samples = 4 then .four else .one, cause := cause, progress := [] }
    let h := heardFrom s src (knownInfo s src)
    exec (.rxMeasure src s.own tag samples channels) s = match verdict with
      | some reason => .next (handedOver { h with
          counters := { s.counters with measureRefused := satInc s.counters.measureRefused } } src .measure reason tag)
      | none => .next { h with converter := Converter.proceed { s.converter with peers := s.converter.peers ++ [job] } }

/-- A MEASURE and a QUERY outside ACTIVE are ignored and counted (R11, R176); in LOADING, and in UNLOADED with RSTN high, whatever their
destination (R160, R164). -/
def Obligations.UnservedRequestsAreCounted : Prop :=
  ∀ (s : State) (src dst : Addr) (tag : Tag) (samples : Byte) (channels : List Byte) (kind : BitVec 3) (arg : QueryArg),
    channels.length ≤ 8 → isStation dst.toNat = true →
    let ignored := { s.counters with requestsIgnored := satInc s.counters.requestsIgnored }
    let dropped := { s.counters with queriesDropped := satInc s.counters.queriesDropped }
    (s.station.mode ≠ .active → dst = s.own →
      (FromPeer s src (.measure tag samples channels) → exec (.rxMeasure src dst tag samples channels) s =
        .next { heardFrom s src (knownInfo s src) with counters := ignored }) ∧
      (FromPeer s src (.query kind tag arg) → exec (queryCommand kind src dst tag arg) s =
        .next { heardFrom s src (knownInfo s src) with counters := dropped })) ∧
    (isStation src.toNat = true → s.station.mode = .loading ∨ (s.station.mode = .unloaded ∧ s.station.rstnHigh = true) →
      onLineFrames s.bus = [] →
      exec (.rxMeasure src dst tag samples channels) s = .next { s with counters := ignored } ∧
      exec (queryCommand kind src dst tag arg) s = .next { s with counters := dropped })

/-! ## Sweeps -/

/-- The serial order of sweep numbers (R43): newer is 1 to 32767 ahead around the circle, no number is newer than itself, two numbers are
never newer than each other, neither is newer at the distance 32768, and a number that is not newer is not accepted. -/
def Obligations.SweepNumbersCompareSerially : Prop :=
  ∀ a b : Count,
    let ahead := (a.toNat + 65536 - b.toNat) % 65536
    (newer a b = true ↔ 1 ≤ ahead ∧ ahead ≤ 32767) ∧
    newer a a = false ∧
    (newer a b = true → newer b a = false) ∧
    (ahead = 32768 → newer a b = false ∧ newer b a = false) ∧
    acceptable a (some b) = newer a b ∧
    newer (a + 1) a = true

/-- RX_SWEEP (R46, R50, R55): a number not newer than L is counted as stale and changes nothing else; any other is accepted, at a station
without watches and from a peer already PRESENT: L, the call timer, the own SWEEP frames, the tallies, the deadline and the own job. -/
def Obligations.SweepIsAcceptedOrStale : Prop :=
  ∀ (s : State) (src : Addr) (n : Count), FromPeer s src (.sweep n) →
    let h := heardFrom s src (knownInfo s src)
    (∀ l, s.sweeps.last = some l → newer n l = false →
      exec (.rxSweep src 31 n) s =
        .next { h with counters := { s.counters with staleSweeps := satInc s.counters.staleSweeps } }) ∧
    (∀ p, s.roster.peers.find src.toNat = some p → p.state = .present → s.cfg.watches = [] →
      (∀ l, s.sweeps.last = some l → newer n l = true) →
      ∃ E : StationSet,
        (∀ a, a < 32 → (setHas E a = true ↔ ExpectsAt s a ∨ (MeasuresSweeps s ∧ a = s.own.toNat))) ∧
        exec (.rxSweep src 31 n) s = .next (sweepAccepted n E h))

/-- CALL_TIMER_EXPIRY (R52): the timer restarts and a SWEEP for the successor of L, or 0, enters the transmit queue, unless the own earlier
call is still there. Nothing else changes. -/
def Obligations.CallTimerCalls : Prop :=
  ∀ s : State, s.station.mode = .active → s.sweeps.call = some 0 →
    let restarted := { s with sweeps := { s.sweeps with call := some (s.cfg.sweepPeriod + s.own.toNat * 4) } }
    let number : Count := match s.sweeps.last with
      | none => 0
      | some l => l + 1
    (held .sweepUnit s.bus.queue = 0 → exec .callTimerExpiry s = .next (withFrame restarted 31 (.sweep number))) ∧
    (1 ≤ held .sweepUnit s.bus.queue → exec .callTimerExpiry s = .next restarted)

/-- SWEEP_DEADLINE_EXPIRY (R58, R61): the OPEN tally closes INCOMPLETE; where no entry holds a value of its sweep, every ON_SWEEP watch
counts a missed evaluation (R88, R90), and nothing else changes. -/
def Obligations.DeadlineClosesIncomplete : Prop :=
  ∀ (s : State) (t : Tally), s.works = true → s.sweeps.deadline = some 0 → s.sweeps.current = some t → t.state = .opened →
    s.watches.length = s.cfg.watches.length →
    (∀ p ∈ s.table, ∀ v, p.2.sweep = some v → v.number ≠ t.number) →
    exec .sweepDeadlineExpiry s = .next { s with
      sweeps := { s.sweeps with current := some { t with state := .incomplete }, deadline := none }
      watches := List.zipWith
        (fun c r => if c.moment = .onSweep then { r with missed := satInc r.missed } else r) s.cfg.watches s.watches }

/-- RX_RESULT of a cause other than SWEEP at a station without watches (R67, R68, R69): the entries of keys that the table holds are renewed,
and an item for a new key, with room in the table, leaves a cached entry and evicts none; the keys' hold-offs end (R123), and the pending
entry that the RESULT answers leaves the table (R128). Nothing else changes. -/
def Obligations.ResultUpdatesTable : Prop :=
  ∀ (s : State) (src : Addr) (cause : Cause) (items : List Item),
    FromPeer s src (.result cause items) → Cause.inRange cause = true → Cause.cls cause ≠ .sweep → 1 ≤ items.length → items.length ≤ 8 →
    s.cfg.watches = [] → RequesterQuiet s →
    let pending := s.requester.pending.filter
      (fun e => !decide (e.target = src ∧ cause = .measure (s.own.setWidth 8) e.tag))
    (KeysHeld s src items → ∃ T H, RenewedBy s src cause items T ∧ HoldOffsEnded s src items H ∧
      exec (.rxResult src 31 cause items) s = .next { heardFrom s src (knownInfo s src) with
        table := T, requester := { s.requester with holdOffs := H, pending := pending } }) ∧
    ∀ it, items = [it] → s.table.find (keyIx src it.channel.toNat) = none → s.table.length < 48 →
      ∃ T H, (∀ x, T.find x = if x = keyIx src it.channel.toNat then some (renewedEntry s it cause emptyEntry) else s.table.find x) ∧
        HoldOffsEnded s src items H ∧
        exec (.rxResult src 31 cause items) s = .next { heardFrom s src (knownInfo s src) with
          table := T, requester := { s.requester with holdOffs := H, pending := pending } }

/-- RX_RESULT with cause SWEEP (R48, R56, R57): a number newer than L is accepted first, with every effect of an acceptance (R50); a report
for the OPEN tally joins the reported set and closes the tally COMPLETE when nobody is missing, or counts as an extra report; any other report
is late. The values reach the table in every case (R68), and the keys' hold-offs end (R123), here at a station without watches. Of a newer
number the reporting station is expected where it was PRESENT and takes part; where it was not PRESENT, the roster may make it so before
or after the tally opens (R48, log entry 6). -/
def Obligations.SweepResultIsReported : Prop :=
  ∀ (s : State) (src : Addr) (k : Count) (items : List Item), FromPeer s src (.result (.sweep k) items) → 1 ≤ items.length → items.length ≤ 8 →
    (acceptable k s.sweeps.last = true → s.cfg.watches = [] → RequesterQuiet s → KeysHeld s src items →
      ∃ T H E, RenewedBy s src (.sweep k) items T ∧ HoldOffsEnded s src items H ∧
        (∀ a, a < 32 → a ≠ src.toNat → (setHas E a = true ↔ ExpectsAt s a ∨ (MeasuresSweeps s ∧ a = s.own.toNat))) ∧
        (ExpectsAt s src.toNat → setHas E src.toNat = true) ∧
        (setHas E src.toNat = true → ∃ q i, (src.toNat, q) ∈ s.roster.peers ∧ q.info = some i ∧ i.participation = true) ∧
        let a := sweepAccepted k E { heardFrom s src (knownInfo s src) with
          table := T, requester := { s.requester with holdOffs := H } }
        let R := setInsert 0 src.toNat
        let tally : Tally := { number := k, state := .opened, expected := E, reported := 0, extra := 0 }
        exec (.rxResult src 31 (.sweep k) items) s = .next (
          if E = 0 then { a with counters := { a.counters with lateResults := satInc s.counters.lateResults } }
          else if R = E then { a with
            sweeps := { a.sweeps with current := some { tally with reported := R, state := .complete }, deadline := none } }
          else if setHas E src.toNat then { a with sweeps := { a.sweeps with current := some { tally with reported := R } } }
          else { a with
            sweeps := { a.sweeps with current := some { tally with extra := 1 } }
            counters := { a.counters with extraReports := satInc s.counters.extraReports } })) ∧
    (acceptable k s.sweeps.last = false → s.cfg.watches = [] → RequesterQuiet s → KeysHeld s src items →
      ∃ T H, RenewedBy s src (.sweep k) items T ∧ HoldOffsEnded s src items H ∧
        let h := { heardFrom s src (knownInfo s src) with
          table := T, requester := { s.requester with holdOffs := H } }
        (∀ c, s.sweeps.current = some c → c.state = .opened → c.number = k → setHas c.expected src.toNat = true →
          let R := setInsert c.reported src.toNat
          exec (.rxResult src 31 (.sweep k) items) s = .next { h with
            sweeps := if R = c.expected
              then { s.sweeps with current := some { c with reported := R, state := .complete }, deadline := none }
              else { s.sweeps with current := some { c with reported := R } } }) ∧
        (∀ c, s.sweeps.current = some c → c.state = .opened → c.number = k → setHas c.expected src.toNat = false →
          exec (.rxResult src 31 (.sweep k) items) s = .next { h with
            sweeps := { s.sweeps with current := some { c with extra := satInc c.extra } }
            counters := { s.counters with extraReports := satInc s.counters.extraReports } }) ∧
        ((∀ c, s.sweeps.current = some c → c.state ≠ .opened ∨ c.number ≠ k) →
          exec (.rxResult src 31 (.sweep k) items) s = .next { h with
            counters := { s.counters with lateResults := satInc s.counters.lateResults } }))

/-! ## Value table -/

/-- The victim of an eviction is the oldest cached entry, the first in key order among equals, and one outside the batch while there is one
(R71); an item for a new key at a full table evicts one entry, is counted, and leaves a cached entry. -/
def Obligations.EvictionVictimIsOldestCached : Prop :=
  (∀ (batch : List Nat) (now : Time) (t : Map Entry) (v : Nat) (e : Entry), Map.wf t → (v, e) ∈ t → e.pinned = false →
    ((v ∉ batch ∧ ∀ p ∈ t, p.2.pinned = false → p.1 ∉ batch →
        entryAge now p.2 < entryAge now e ∨ (entryAge now p.2 = entryAge now e ∧ v ≤ p.1)) ∨
      ((∀ p ∈ t, p.2.pinned = false → p.1 ∈ batch) ∧ ∀ p ∈ t, p.2.pinned = false →
        entryAge now p.2 < entryAge now e ∨ (entryAge now p.2 = entryAge now e ∧ v ≤ p.1))) →
    victim batch now t = some v) ∧
  ∀ (s : State) (src : Addr) (cause : Cause) (it : Item) (v : Nat) (e : Entry),
    let k := keyIx src it.channel.toNat
    FromPeer s src (.result cause [it]) → Cause.inRange cause = true → Cause.cls cause ≠ .sweep → s.cfg.watches = [] →
    RequesterQuiet s → (∀ x ∈ s.requester.pending, x.target ≠ src) →
    Map.wf s.table → s.table.length = 48 → s.table.find k = none → s.table.find v = some e → e.pinned = false →
    (∀ p ∈ s.table, p.2.pinned = false →
      entryAge s.time p.2 < entryAge s.time e ∨ (entryAge s.time p.2 = entryAge s.time e ∧ v ≤ p.1)) →
    ∃ T H, (∀ x, T.find x = if x = k then some (renewedEntry s it cause emptyEntry) else if x = v then none else s.table.find x) ∧
      HoldOffsEnded s src [it] H ∧
      exec (.rxResult src 31 cause [it]) s = .next { heardFrom s src (knownInfo s src) with
        table := T
        requester := { s.requester with holdOffs := H }
        counters := { s.counters with evictions := satInc s.counters.evictions } }

/-- FRESHNESS_EXPIRY of an entry that is the station's own, or cached, or held by a station that is not ACTIVE (R72): it goes STALE, and
nothing else changes. -/
def Obligations.FreshnessExpiryMakesStale : Prop :=
  ∀ (s : State) (k : Key) (e : Entry), s.works = true → s.table.find (Key.ix k) = some e → e.timer = some 0 →
    (e.pinned = false ∨ k.station = s.own ∨ s.station.mode ≠ .active) →
    ∃ T, (∀ x, T.find x = if x = Key.ix k then some { e with state := .stale, timer := none } else s.table.find x) ∧
      exec (.freshnessExpiry k) s = .next { s with table := T }

/-- FRESHNESS_EXPIRY of a watched peer's entry and HOLD_OFF_EXPIRY in ACTIVE (R72, R122, R123): the key is taken, an entry of the pending
table is issued for it (R125, R126), and its MEASURE enters the transmit queue (R127). Nothing else changes. -/
def Obligations.StaleWatchedKeyIsRequested : Prop :=
  ∀ (s : State) (k : Key), s.station.mode = .active → holdsLost s k.station.toNat = false →
    s.requester.wanted = [] → s.requester.pending = [] → held .requester s.bus.queue = 0 →
    let tag := s.requester.tag + 1
    let one : ChannelSet := BitVec.twoPow 8 k.channel.toNat
    let entry : PendingEntry :=
      { target := k.station, tag := tag, channels := one, attempts := 1, stage := .queued, duplicateUsed := false }
    let asking := { s.requester with pending := [entry], tag := tag, served := some k.station }
    (∀ e, s.table.find (Key.ix k) = some e → e.timer = some 0 → e.pinned = true → k.station ≠ s.own →
      s.requester.holdOffs.find (Key.ix k) = none →
      ∃ T, (∀ x, T.find x = if x = Key.ix k then some { e with state := .stale, timer := none } else s.table.find x) ∧
        exec (.freshnessExpiry k) s =
          .next (withFrame { s with table := T, requester := asking } k.station (askFor tag one))) ∧
    (s.requester.holdOffs.find (Key.ix k) = some 0 →
      ∃ H, (∀ x, H.find x = if x = Key.ix k then none else s.requester.holdOffs.find x) ∧
        exec (.holdOffExpiry k) s =
          .next (withFrame { s with requester := { asking with holdOffs := H } } k.station (askFor tag one)))

/-! ## Requester -/

/-- REPLY_TIMER_EXPIRY and BACK_OFF_EXPIRY before the third attempt (R130, R131): the entry takes its next attempt, behind every other due
send; with the quota free its MEASURE enters the transmit queue at once (R127). Nothing else changes. -/
def Obligations.AttemptTimersRetry : Prop :=
  ∀ (s : State) (l1 l2 : List PendingEntry) (e : PendingEntry) (c : Instr),
    s.station.mode = .active → RequesterQuiet s → Awaits s l1 e l2 → e.attempts < 3 →
    (c = .replyTimerExpiry e.tag ∧ e.stage = .sent 0) ∨ (c = .backOffExpiry e.tag ∧ e.stage = .backingOff 0) →
    let again := fun st : Stage =>
      { s with requester := { s.requester with
          pending := l1 ++ l2 ++ [{ e with attempts := e.attempts + 1, stage := st, duplicateUsed := false }] } }
    (held .requester s.bus.queue = 0 → exec c s = .next (withFrame (again .queued) e.target (askFor e.tag e.channels))) ∧
    (1 ≤ held .requester s.bus.queue → exec c s = .next (again .due))

/-- REPLY_TIMER_EXPIRY and BACK_OFF_EXPIRY after the third attempt (R131, R132), at a station without watches: the entry leaves the table,
its keys are marked unreachable, and each gets a hold-off of 5000 ms. Nothing else changes. -/
def Obligations.ThirdAttemptGivesUp : Prop :=
  ∀ (s : State) (l1 l2 : List PendingEntry) (e : PendingEntry) (c : Instr),
    s.cfg.watches = [] → RequesterQuiet s → Awaits s l1 e l2 → e.attempts = 3 →
    (c = .replyTimerExpiry e.tag ∧ e.stage = .sent 0) ∨ (c = .backOffExpiry e.tag ∧ e.stage = .backingOff 0) →
    ∃ T H, GivenUp s e.target e.channels T H ∧
      exec c s = .next { s with table := T, requester := { s.requester with holdOffs := H, pending := l1 ++ l2 } }

/-- RX_REFUSE (R129, R183): QUEUE_FULL and BUSY start the 50 ms back-off of an entry that is SENT, DUPLICATE extends its reply timer once,
BAD_CHANNEL and BAD_REQUEST give the entry up in any stage, and every other refusal changes nothing. -/
def Obligations.RefusalsActByReason : Prop :=
  ∀ (s : State) (src : Addr) (reason : BitVec 3) (tag : Tag),
    FromPeer s src (.refuse .measure reason tag) → isStation s.own.toNat = true → RequesterQuiet s → s.cfg.watches = [] →
    let h := heardFrom s src (knownInfo s src)
    let c := Instr.rxRefuse src s.own .measure reason tag
    exec (.rxRefuse src s.own .query reason tag) s = .next h ∧
    ((∀ x ∈ s.requester.pending, x.tag ≠ tag ∨ x.target ≠ src) → exec c s = .next h) ∧
    ∀ l1 e l2, Awaits s l1 e l2 → e.tag = tag → e.target = src →
      let put := fun e' : PendingEntry => { h with requester := { s.requester with pending := l1 ++ e' :: l2 } }
      (∀ r, e.stage = .sent r → reason = 0 ∨ reason = 4 → exec c s = .next (put { e with stage := .backingOff 50 })) ∧
      (∀ r, e.stage = .sent r → reason = 1 → e.duplicateUsed = false →
        exec c s = .next (put { e with stage := .sent s.cfg.reply, duplicateUsed := true })) ∧
      (reason = 2 ∨ reason = 3 → ∃ T H, GivenUp s src e.channels T H ∧
        exec c s = .next { h with table := T, requester := { s.requester with holdOffs := H, pending := l1 ++ l2 } }) ∧
      ((reason = 1 ∧ e.duplicateUsed = true) ∨ 5 ≤ reason.toNat → exec c s = .next h) ∧
      ((∀ r, e.stage ≠ .sent r) → reason = 0 ∨ reason = 1 ∨ reason = 4 → exec c s = .next h)

/-- The tag counter advances to the next tag that no entry holds (R125), and the station served next is the lowest candidate above the one
served last, or else the lowest (R126). -/
def Obligations.TagAndTargetAreChosenInTurn : Prop :=
  (∀ (used : List Tag) (t : Tag), used.length ≤ 4 →
    ∃ d : Nat, 1 ≤ d ∧ d ≤ 5 ∧ nextTag used pendingCapacity t = t + BitVec.ofNat 8 d ∧
      t + BitVec.ofNat 8 d ∉ used ∧ ∀ j, 1 ≤ j → j < d → t + BitVec.ofNat 8 j ∈ used) ∧
  ∀ s : State, Map.wf s.requester.wanted →
    (∀ a, a ∈ candidates s ↔ ∃ cs, (a, cs) ∈ s.requester.wanted ∧ cs ≠ 0 ∧
      (∀ e ∈ s.requester.pending, e.target.toNat ≠ a) ∧ holdsLost s a = false) ∧
    (nextTarget s = none ↔ candidates s = []) ∧
    ∀ a, nextTarget s = some a ↔ a ∈ candidates s ∧
      match s.requester.served with
      | some b => if ∃ c ∈ candidates s, b.toNat < c then b.toNat < a ∧ ∀ c ∈ candidates s, b.toNat < c → a ≤ c
          else ∀ c ∈ candidates s, a ≤ c
      | none => ∀ c ∈ candidates s, a ≤ c

/-! ## Watches and alerts -/

/-- The zone function (R85), for thresholds and a hysteresis that pass the checks of R82 (the low threshold plus the hysteresis stays under
the high one): the two bands never hold at once. -/
def Obligations.ZoneFunctionHasHysteresis : Prop :=
  ∀ (c : WatchConfig) (z : Zone) (x : Int),
    (∀ h l, c.high = some h → c.low = some l → l + c.hysteresis < h) →
    let above := ∃ h, c.high = some h ∧ (h ≤ x ∨ (z = .above ∧ h - c.hysteresis ≤ x))
    let below := ∃ l, c.low = some l ∧ (x ≤ l ∨ (z = .below ∧ x ≤ l + c.hysteresis))
    (zoneOf c z x = .above ↔ above) ∧ (zoneOf c z x = .below ↔ below) ∧ (zoneOf c z x = .inside ↔ ¬ above ∧ ¬ below)

/-- Each qualifying evaluation (R91): agreement with the confirmed zone clears the candidate, agreement with the candidate raises its count,
any other zone becomes the candidate with count 1, and a count equal to the persistence confirms it. The watch's run-time fields become
these, the evaluated value among them (R84), and no other watch's change. -/
def Obligations.ZoneConfirmsAfterPersistence : Prop :=
  ∀ (c : WatchConfig) (r : WatchRun) (x : Int) (w : Nat) (s : State),
    let z := zoneOf c r.zone x
    let count : Nat := match r.candidate with
      | some k => if k.zone = z then k.count + 1 else 1
      | none => 1
    let after : WatchRun :=
      if z = r.zone then { r with candidate := none, last := some x }
      else if count = c.persistence then { r with zone := z, candidate := none, last := some x }
      else { r with candidate := some { zone := z, count := count }, last := some x }
    z ≠ .unknown ∧ (evaluate w c r (some x) s).watches = s.watches.set w after

/-- A value received at a station with one LEVEL watch on its key, persistence 1 and no group (R86, R91, R92, R93): confirming a zone in the
alert zone raises an alert under a new sequence, in a new record or in place in the one there is, as a zone change under BOTH does (R94, R102,
R103); leaving the alert zone clears the record, which goes when it has been acknowledged (R104, R105). The station is not ACTIVE, so no
ALERT is formed yet (R107). -/
def Obligations.ThresholdCrossingRaisesAlert : Prop :=
  ∀ (s : State) (src : Addr) (cause : Cause) (it : Item) (c : WatchConfig) (r : WatchRun),
    FromPeer s src (.result cause [it]) → s.station.mode ≠ .active → Cause.inRange cause = true → Cause.cls cause ≠ .sweep → RequesterQuiet s →
    (∀ x ∈ s.requester.pending, x.target ≠ src) →
    s.cfg.watches = [c] → c.sourceA = { station := src, channel := it.channel } → c.sourceB = none → c.moment = .onUpdate →
    c.persistence = 1 → c.group = none → s.watches = [r] → r.candidate = none →
    (∃ e, s.table.find (keyIx src it.channel.toNat) = some e ∧ e.unreachable = false) →
    let v : Int := it.value.toNat
    let z := zoneOf c r.zone v
    z ≠ r.zone →
    ∃ T H, RenewedBy s src cause [it] T ∧ HoldOffsEnded s src [it] H ∧
      let h := { heardFrom s src (knownInfo s src) with
        table := T, requester := { s.requester with holdOffs := H }
        watches := [{ r with zone := z, candidate := none, last := some v }] }
      (alarming c.crossing z = true → s.alerts.queue = [] → s.alerts.finals = [] →
        exec (.rxResult src 31 cause [it]) s = .next { h with
          alerts := { s.alerts with
            seq := s.alerts.seq + 1
            queue := [{ watch := 0, sequence := s.alerts.seq + 1, causes := { threshold := true, sourceLost := false },
                        acknowledged := false, announce := true, frame := none, changed := true, zone := z,
                        value := some v }] } }) ∧
      (∀ a : AlertRecord, alarming c.crossing z = true → s.alerts.queue = [a] → a.watch = 0 →
        exec (.rxResult src 31 cause [it]) s = .next { h with
          alerts := { s.alerts with
            seq := s.alerts.seq + 1
            queue := [{ a with
              sequence := s.alerts.seq + 1, causes := { a.causes with threshold := true }, acknowledged := false, announce := true,
              changed := true, zone := z, value := some v }] } }) ∧
      (∀ a : AlertRecord, alarming c.crossing r.zone = true → alarming c.crossing z = false → s.alerts.queue = [a] → a.watch = 0 →
        a.causes = { threshold := true, sourceLost := false } →
        (a.acknowledged = true → exec (.rxResult src 31 cause [it]) s = .next { h with
          alerts := { s.alerts with
            queue := []
            finals := s.alerts.finals ++
              [{ watch := 0, sequence := a.sequence, zone := z, value := some v, frame := a.frame }] } }) ∧
        (a.acknowledged = false → exec (.rxResult src 31 cause [it]) s = .next { h with
          alerts := { s.alerts with
            queue := [{ a with causes := { threshold := false, sourceLost := false }, announce := true, changed := true, zone := z,
                               value := some v }] } }))

/-- ALERT_REPEAT_EXPIRY (R109): the timer restarts and every unacknowledged record is to be announced. With the quota of 2 full nothing else
happens; with a place free the record's ALERT enters the transmit queue (R106, R107). -/
def Obligations.RepeatAnnouncesUnacknowledged : Prop :=
  ∀ s : State, s.station.mode = .active → s.alerts.timer = some 0 →
    (2 ≤ held .alertUnit s.bus.queue → exec .alertRepeatExpiry s = .next { s with
      alerts := { s.alerts with
        timer := some s.cfg.alertRepeat
        queue := s.alerts.queue.map (fun r => if r.acknowledged then r else { r with announce := true }) } }) ∧
    (∀ r, s.alerts.queue = [r] → s.alerts.finals = [] → r.acknowledged = false → r.frame = none →
      held .alertUnit s.bus.queue < 2 →
      let a := recordAlert s r
      exec .alertRepeatExpiry s = .next (withFrame { s with
        alerts := { s.alerts with
          timer := some s.cfg.alertRepeat
          queue := [{ r with announce := true, frame := some a, changed := false }] } } 31 (.alert a)))

/-- RX_ALERT (R115, R117): a RAISED alert adds its watch to the source's set in the group's asserter map, a CLEARED one removes it, a station
with an empty set is in no map; the group's state and the alarm lines follow. Without a group the table does not change. -/
def Obligations.ReceivedAlertFeedsGroup : Prop :=
  ∀ (s : State) (src : Addr) (a : Alert), FromPeer s src (.alert a) → signedWordOk a.value = true →
    let h := heardFrom s src (knownInfo s src)
    (a.group = none → exec (.rxAlert src 31 a) s = .next h) ∧
    ∀ (g : BitVec 3) (gr : Group), a.group = some g → s.alerts.groups[g.toNat]? = some gr →
      let before := (gr.asserters.find src.toNat).getD 0
      let after : WatchSet := if a.cleared then before &&& ~~~ BitVec.twoPow 16 a.watch.toNat
        else before ||| BitVec.twoPow 16 a.watch.toNat
      ∃ m : Map WatchSet,
        (∀ x, m.find x = if x = src.toNat then (if after = 0 then none else some after) else gr.asserters.find x) ∧
        let groups := s.alerts.groups.set g.toNat
          { gr with asserters := m, active := decide (gr.quorum ≠ 0 ∧ gr.quorum ≤ m.length) }
        exec (.rxAlert src 31 a) s = .next { h with
          alerts := { s.alerts with
            groups := groups
            ala := groups.any (fun g => g.active && g.lineA)
            alb := groups.any (fun g => g.active && g.lineB) } }

/-- RX_ACK (R111), where no other alert waits for a frame: the record nearest the head that holds the sequence is acknowledged while it has
active causes and removed when it has none, leaving a final announcement if a frame of it is in the queue (R105); without such a record the
ACK is counted. -/
def Obligations.AckActsOnItsRecord : Prop :=
  ∀ (s : State) (src : Addr) (q : Count), FromPeer s src (.ack q) → isStation s.own.toNat = true → NothingToAnnounce s →
    let h := heardFrom s src (knownInfo s src)
    ((∀ r ∈ s.alerts.queue, r.sequence ≠ q) → exec (.rxAck src s.own q) s =
      .next { h with counters := { s.counters with unmatchedAcks := satInc s.counters.unmatchedAcks } }) ∧
    ∀ l1 r l2, s.alerts.queue = l1 ++ r :: l2 → r.sequence = q → (∀ x ∈ l1, x.sequence ≠ q ∧ x.watch ≠ r.watch) →
      (r.causes ≠ { threshold := false, sourceLost := false } → exec (.rxAck src s.own q) s =
        .next { h with alerts := { s.alerts with queue := l1 ++ { r with acknowledged := true } :: l2 } }) ∧
      (r.causes = { threshold := false, sourceLost := false } → exec (.rxAck src s.own q) s =
        .next { h with alerts := { s.alerts with
          queue := l1 ++ l2
          finals := s.alerts.finals ++
            (if r.frame.isSome
              then [{ watch := r.watch, sequence := r.sequence, zone := r.zone, value := r.value, frame := r.frame }]
              else []) } })

/-! ## Roster -/

/-- A frame heard from a peer (R139, R140). RX_PRESENCE that carries ACTIVE: the slot is PRESENT with the new contents, stamped now, both
timers restarted. A frame directed to another station reaches the roster alone (R158), whatever its kind. Either, heard from a LOST peer,
also ends the hold-offs of the peer's keys, which are taken again: each is wanted, or asked for by an entry of the pending table (R123).
SILENT_TIMER_EXPIRY (R141): the slot becomes SILENT. Nothing else changes. -/
def Obligations.PresenceUpdatesSlot : Prop :=
  (∀ (s : State) (src : Addr) (p : Presence), FromPeer s src (.presence p) → p.alerts.toNat ≤ 16 → p.active = true →
    exec (.rxPresence src 31 p) s = .next (heardFrom s src (some p))) ∧
  (∀ (s : State) (c : Instr) (f : Frame), c.frame = some f → Frame.wellFormed f = true → f.dst ≠ 31 → f.dst ≠ s.own →
    FromPeer s f.src f.body → exec c s = .next { heardFrom s f.src (knownInfo s f.src) with draws := s.draws }) ∧
  (∀ (s : State) (c : Instr) (f : Frame) (info : Option Presence), c.frame = some f → Frame.wellFormed f = true →
    (f.dst ≠ 31 ∧ f.dst ≠ s.own ∧ info = knownInfo s f.src) ∨ (∃ p, f.body = .presence p ∧ p.active = true ∧ info = some p) →
    Reaches s f.src f.body → holdsLost s f.src.toNat = true →
    ∃ t, exec c s = .next t ∧ t.roster = (heardFrom s f.src info).roster ∧
      (∀ k, t.requester.holdOffs.find k = if ixStation k = f.src.toNat then none else s.requester.holdOffs.find k) ∧
      (∀ k, ixStation k = f.src.toNat → (s.requester.holdOffs.find k).isSome = true →
        (∃ w, t.requester.wanted.find f.src.toNat = some w ∧ setHas w (ixChannel k) = true) ∨
        ∃ e ∈ t.requester.pending, e.target = f.src ∧ setHas e.channels (ixChannel k) = true) ∧
      t.table = s.table ∧ t.sweeps = s.sweeps ∧ t.watches = s.watches ∧ t.alerts = s.alerts ∧ t.converter = s.converter ∧
      t.queries = s.queries ∧ t.counters = s.counters ∧ t.station = s.station ∧ t.time = s.time ∧ t.pending = s.pending) ∧
  ∀ (s : State) (a : Addr) (p : Peer), s.works = true → s.roster.peers.find a.toNat = some p → p.quiet = some 0 →
    let silent : Peer := { p with state := .silent, quiet := none }
    exec (.silentTimerExpiry a) s = .next { s with roster := { s.roster with peers := s.roster.peers.set a.toNat silent } }

/-- RX_PRESENCE that carries JOINING (R140): the slot is updated and the peer has restarted. It leaves every asserter map and every record
with active causes is to be announced again (R110); an entry of the pending table that is SENT or BACKING_OFF for it takes its next attempt
(R134). Either block may take it first (log entry 7). With a place of the ALERT quota free and one record of an ACTIVE station to announce, its
ALERT enters the transmit queue (R107). -/
def Obligations.RestartedPeerIsReannounced : Prop :=
  ∀ (s : State) (src : Addr) (p : Presence), FromPeer s src (.presence p) → p.alerts.toNat ≤ 16 → p.active = false →
    ((∀ e ∈ s.requester.pending, e.target ≠ src) →
      let left := fun g : Group =>
        let m := g.asserters.filter (fun x => x.1 != src.toNat)
        { g with asserters := m, active := decide (g.quorum ≠ 0 ∧ g.quorum ≤ m.length) }
      let groups := s.alerts.groups.map left
      let again := s.alerts.queue.map
        (fun r => if r.causes = { threshold := false, sourceLost := false } then r else { r with announce := true })
      let restarted := fun queue : List AlertRecord => { heardFrom s src (some p) with
        draws := s.draws + 2
        alerts := { s.alerts with
          groups := groups
          ala := groups.any (fun g => g.active && g.lineA)
          alb := groups.any (fun g => g.active && g.lineB)
          queue := queue } }
      let framed := fun r : AlertRecord => r.announce = true → r.frame.isSome = true
      (s.station.mode ≠ .active ∨ 2 ≤ held .alertUnit s.bus.queue ∨
          ((∀ r ∈ again, framed r) ∧ ∀ f ∈ s.alerts.finals, f.frame.isSome = true) →
        exec (.rxPresence src 31 p) s = .next (restarted again)) ∧
      (s.station.mode = .active → held .alertUnit s.bus.queue < 2 → (∀ f ∈ s.alerts.finals, f.frame.isSome = true) →
        ∀ m1 r m2, again = m1 ++ r :: m2 → r.announce = true → r.frame = none → (∀ x ∈ m1 ++ m2, framed x) →
          exec (.rxPresence src 31 p) s = .next (withFrame
            (restarted (m1 ++ { r with frame := some (recordAlert s r), changed := false } :: m2)) 31 (.alert (recordAlert s r))))) ∧
    (∀ l1 e l2, Awaits s l1 e l2 → e.target = src → (∀ x ∈ l1, x.target ≠ src) → RequesterQuiet s → e.stage ≠ .queued →
      e.attempts < 3 →
      let st : Stage := if s.station.mode = .active ∧ held .requester s.bus.queue = 0 then .queued else .due
      ∃ t, exec (.rxPresence src 31 p) s = .next t ∧
        t.requester = { s.requester with
          pending := l1 ++ l2 ++ [{ e with attempts := e.attempts + 1, stage := st, duplicateUsed := false }] } ∧
        t.roster = (heardFrom s src (some p)).roster ∧ t.table = s.table ∧ t.sweeps = s.sweeps ∧ t.counters = s.counters)

/-- LOST_TIMER_EXPIRY (R141): the slot becomes LOST, the peer's FRESH entries go STALE (R76), an OPEN tally expects it no more (R60), and it is
in no asserter map (R116). An ACTIVE station's requester gives up, marks unreachable and holds off for 5000 ms the keys that it wanted or asked for
(R132, R133), and those watched keys that go STALE by the loss and are not held off already (R73, R122); outside ACTIVE it keeps what it holds, and
no mark changes. The blocks take it in any order (log entry 8), the slot being LOST by then (log entry 25). -/
def Obligations.LostPeerLeavesEveryBlock : Prop :=
  ∀ (s : State) (a : Addr) (p : Peer), s.works = true → s.roster.peers.find a.toNat = some p → p.gone = some 0 →
    (∀ w ∈ s.requester.wanted, w.1 < 32) →
    let lost : Peer := { p with state := .lost, quiet := none, gone := none }
    let stale := fun (k : Nat) (e : Entry) =>
      if ixStation k = a.toNat ∧ e.state = .fresh then { e with state := .stale, timer := none } else e
    let givenUp := fun k : Nat => s.station.mode = .active ∧ ixStation k = a.toNat ∧
      ((∃ w, s.requester.wanted.find a.toNat = some w ∧ setHas w (ixChannel k) = true) ∨
        (∃ e ∈ s.requester.pending, e.target = a ∧ setHas e.channels (ixChannel k) = true) ∨
        (a ≠ s.own ∧ s.requester.holdOffs.find k = none ∧ ∃ e, (k, e) ∈ s.table ∧ e.pinned = true ∧ e.state = .fresh))
    ∃ t, exec (.lostTimerExpiry a) s = .next t ∧
      t.roster = { s.roster with peers := s.roster.peers.set a.toNat lost } ∧
      (∀ k, (givenUp k → t.table.find k = (s.table.find k).map (fun e => { stale k e with unreachable := true })) ∧
        (¬ givenUp k → t.table.find k = (s.table.find k).map (stale k))) ∧
      (∀ k, (givenUp k → t.requester.holdOffs.find k = some 5000) ∧
        (¬ givenUp k → t.requester.holdOffs.find k = s.requester.holdOffs.find k)) ∧
      (∀ c, t.sweeps.current = some c → c.state = .opened → setHas c.expected a.toNat = false) ∧
      (s.station.mode = .active →
        (∀ e ∈ t.requester.pending, e.target ≠ a) ∧ t.requester.wanted.find a.toNat = none) ∧
      (s.station.mode ≠ .active → t.requester = s.requester) ∧
      (∀ g ∈ t.alerts.groups, g.asserters.find a.toNat = none) ∧
      t.station = s.station ∧ t.time = s.time ∧ t.trigger = s.trigger ∧ t.cadence = s.cadence ∧ t.converter = s.converter ∧
      t.sweeps.last = s.sweeps.last ∧ t.queries = s.queries ∧ t.counters = s.counters ∧ t.pending = s.pending

/-- PRESENCE_TIMER_EXPIRY (R142, R144): the timer restarts and a PRESENCE is formed; it enters the transmit queue, replaces in place the one
that waits there, or becomes due while one is on the line. Nothing else changes. -/
def Obligations.PresenceTimerSendsPresence : Prop :=
  ∀ s : State, s.station.mode = .joining ∨ s.station.mode = .active → s.roster.presence = some 0 →
    let restarted := { s with roster := { s.roster with presence := some (periodMs s.cfg.presence) } }
    (held .roster s.bus.queue = 0 →
      exec .presenceTimerExpiry s = .next (withFrame restarted 31 (.presence (ownPresence s)))) ∧
    ∀ l1 q l2, s.bus.queue = l1 ++ q :: l2 → held .roster l1 = 0 → Body.producer q.frame.body = some .roster →
      (q.onLine = false → exec .presenceTimerExpiry s = .next { restarted with
        bus := { s.bus with queue := l1 ++ { q with frame := { q.frame with body := .presence (ownPresence s) } } :: l2 } }) ∧
      (q.onLine = true → exec .presenceTimerExpiry s = .next { restarted with
        roster := { s.roster with presence := some (periodMs s.cfg.presence), due := true } })

/-! ## The station's own frames -/

/-- TX_FRAME_START (R150): in JOINING and ACTIVE with no own frame on the line, the frame of the lowest class that entered the queue earliest
goes on the line; an empty queue starts nothing, and neither does a station with a frame on the line, flushed or not. Nothing else changes. -/
def Obligations.FrameStartPicksLowestClass : Prop :=
  ∀ s : State,
    (s.bus.queue = [] → exec .txFrameStart s = .next s) ∧
    (onLineFrames s.bus ≠ [] → exec .txFrameStart s = .next s) ∧
    ∀ l1 q l2, s.station.mode = .joining ∨ s.station.mode = .active → s.bus.flushed = none →
      s.bus.queue = l1 ++ q :: l2 → (∀ x ∈ s.bus.queue, x.onLine = false) →
      (∀ x ∈ l1, (Body.cls q.frame.body).toNat < (Body.cls x.frame.body).toNat) →
      (∀ x ∈ l2, (Body.cls q.frame.body).toNat ≤ (Body.cls x.frame.body).toNat) →
      exec .txFrameStart s = .next { s with bus := { s.bus with queue := l1 ++ { q with onLine := true } :: l2 } }

/-- ARBITRATION_LOSS (R148), TRANSMIT_ERROR short of its limits (R153, R154) and FLUSHED_FRAME_END (R161): the frame returns to where it
stood, with an attempt and an error counted for a transmit error alone; a withdrawn one is removed (R156), and a due PRESENCE replaces one
that returns (R144). -/
def Obligations.FramesReturnToTheirPlace : Prop :=
  (∀ s : State, exec .flushedFrameEnd s = .next { s with bus := { s.bus with flushed := none } }) ∧
  ∀ (s : State) (l1 l2 : List QueuedFrame) (q : QueuedFrame), OnLine s l1 q l2 →
    let lost := fun l : List QueuedFrame => { s with bus := { s.bus with queue := l } }
    let erred := fun l : List QueuedFrame => { s with bus := { s.bus with queue := l, errors := s.bus.errors + 1 } }
    (q.withdrawn = true →
      exec .arbitrationLoss s = .next (lost (l1 ++ l2)) ∧
      (s.bus.errors < 15 → exec .transmitError s = .next (erred (l1 ++ l2)))) ∧
    (q.withdrawn = false → Body.producer q.frame.body ≠ some .roster ∨ s.roster.due = false →
      exec .arbitrationLoss s = .next (lost (l1 ++ { q with onLine := false } :: l2)) ∧
      (s.bus.errors < 15 → q.attempts < 3 →
        exec .transmitError s = .next (erred (l1 ++ { q with onLine := false, attempts := q.attempts + 1 } :: l2)))) ∧
    (q.withdrawn = false → Body.producer q.frame.body = some .roster → held .roster l1 = 0 → s.roster.due = true →
      let fresh := { q.frame with body := .presence (ownPresence s) }
      let taken := { s.roster with due := false }
      exec .arbitrationLoss s =
        .next { lost (l1 ++ { q with onLine := false, frame := fresh } :: l2) with roster := taken } ∧
      (s.bus.errors < 15 → q.attempts < 3 → exec .transmitError s =
        .next { erred (l1 ++ { q with onLine := false, attempts := q.attempts + 1, frame := fresh } :: l2) with roster := taken }))

/-- TRANSMIT_ERROR at the fourth attempt (R153): the frame is discarded and counted, and its place is freed. With no producer waiting for it
the SWEEP, RESULT, REFUSE, REPLY or PRESENCE is lost; a held RESULT (R25), the next refusal (R157), a due PRESENCE (R144) takes the place. A
query that waits is answered from the place of a REPLY, with the tx failures as they were or as they have become (R180, log entry 29). A
record whose announce pending is set has its ALERT formed again, of its content now (R108). A discarded MEASURE is taken as a reply timeout
(R127, R131): the next attempt, or after the third the giving up (R132), the latter at a station without watches. Nothing else changes, but
that the open order of the counter and the producer has been settled. -/
def Obligations.FourthErrorDiscards : Prop :=
  ∀ (s : State) (l1 l2 : List QueuedFrame) (q : QueuedFrame), OnLine s l1 q l2 → q.withdrawn = false → 3 ≤ q.attempts →
    s.bus.errors < 15 →
    let counted := { s with
      bus := { s.bus with queue := l1 ++ l2, errors := s.bus.errors + 1 }
      counters := { s.counters with txFailures := satInc s.counters.txFailures }
      draws := s.draws + 1 }
    (Body.producer q.frame.body ∈ [some .sweepUnit, some .converter, some .refusalList, some .queryService, some .roster] →
      s.converter.hold = none → s.bus.refusals = [] → s.queries = [] → s.roster.due = false →
      exec .transmitError s = .next counted) ∧
    (Body.producer q.frame.body = some .converter → s.station.mode = .active → held .converter (l1 ++ l2) < 2 →
      ∀ r, s.converter.hold = some r → exec .transmitError s = .next (withFrame
        { counted with converter := Converter.proceed { s.converter with hold := none } } 31 (.result r.cause r.items))) ∧
    (Body.producer q.frame.body = some .refusalList → held .refusalList (l1 ++ l2) = 0 →
      ∀ r rs, s.bus.refusals = r :: rs → exec .transmitError s = .next (withFrame
        { counted with bus := { counted.bus with refusals := rs } } r.dst (.refuse r.kind r.reason r.tag))) ∧
    (Body.producer q.frame.body = some .roster → s.roster.due = true → exec .transmitError s = .next (withFrame
      { counted with roster := { s.roster with due := false } } 31 (.presence (ownPresence s)))) ∧
    (Body.producer q.frame.body = some .queryService → s.station.mode = .active → held .queryService (l1 ++ l2) = 1 →
      ∀ w ws, s.queries = w :: ws → ∃ k, (k = counted.counters ∨ k = s.counters) ∧
        exec .transmitError s = .next (withFrame { counted with queries := ws } w.asker
          (replyOf { counted with queries := ws, counters := k } w.kind w.tag w.arg))) ∧
    (∀ a, q.frame.body = .alert a → q.orphan = false → s.station.mode = .active → held .alertUnit (l1 ++ l2) < 2 →
      (∀ f ∈ s.alerts.finals, f.watch ≠ a.watch.toNat ∧ f.frame.isSome = true) →
      ∀ m1 r m2, s.alerts.queue = m1 ++ r :: m2 → r.watch = a.watch.toNat → r.announce = true →
        (∀ x ∈ m1 ++ m2, x.watch ≠ a.watch.toNat ∧ (x.announce = true → x.frame.isSome = true)) →
        exec .transmitError s = .next (withFrame { counted with
          alerts := { s.alerts with
            queue := m1 ++ { r with frame := some (recordAlert s r), changed := false } :: m2 } } 31 (.alert (recordAlert s r)))) ∧
    (∀ tag samples channels, q.frame.body = .measure tag samples channels → RequesterQuiet s →
      ∀ m1 e m2, Awaits s m1 e m2 → e.tag = tag → e.stage = .queued →
        (s.station.mode = .active → held .requester (l1 ++ l2) = 0 → e.attempts < 3 →
          exec .transmitError s = .next (withFrame { counted with
            requester := { s.requester with
              pending := m1 ++ m2 ++ [{ e with attempts := e.attempts + 1, stage := .queued, duplicateUsed := false }] } }
            e.target (askFor e.tag e.channels))) ∧
        (e.attempts = 3 → s.cfg.watches = [] → ∃ T H, GivenUp s e.target e.channels T H ∧
          exec .transmitError s = .next { counted with
            table := T, requester := { s.requester with holdOffs := H, pending := m1 ++ m2 } }))

/-- TRANSMIT_ERROR as the sixteenth consecutive error of an ACTIVE station (R154, R171): it goes to SILENCED for 2000 ms, and every block does
what leaving ACTIVE asks of it (R170). -/
def Obligations.SixteenthErrorSilences : Prop :=
  ∀ (s : State) (l1 l2 : List QueuedFrame) (q : QueuedFrame), OnLine s l1 q l2 → s.station.mode = .active → 15 ≤ s.bus.errors →
    ∃ t, exec .transmitError s = .next t ∧
      t.station = { s.station with
        mode := .silenced, release := some 2000, releaseReason := some .errors, clearing := none } ∧
      LeftActive t ∧ t.bus.errors = 16 ∧ t.sweeps = { s.sweeps with call := none } ∧ t.time = s.time ∧ t.trigger = s.trigger ∧
      t.cadence = s.cadence ∧ t.roster.peers = s.roster.peers ∧ t.pending = s.pending

/-- SEND_COMPLETION (R152): the frame leaves the queue, the consecutive errors are forgotten, and the producer uses the freed place: the
held RESULT (R25), a due PRESENCE (R144), the next refusal (R157), the next query's REPLY (R177); a MEASURE starts its reply timer (R127),
an ALERT ends its record's frame (R108), and a SWEEP newer than L is accepted (R47). -/
def Obligations.CompletedFrameFreesItsPlace : Prop :=
  ∀ (s : State) (l1 l2 : List QueuedFrame) (q : QueuedFrame), OnLine s l1 q l2 →
    let sent := { s with bus := { s.bus with queue := l1 ++ l2, errors := 0 } }
    (Body.producer q.frame.body = some .converter →
      (s.converter.hold = none → exec .sendCompletion s = .next sent) ∧
      (∀ r, s.converter.hold = some r → s.station.mode = .active → held .converter (l1 ++ l2) < 2 →
        exec .sendCompletion s = .next (withFrame
          { sent with converter := Converter.proceed { s.converter with hold := none } } 31 (.result r.cause r.items)))) ∧
    (Body.producer q.frame.body = some .roster →
      (s.roster.due = false → exec .sendCompletion s = .next sent) ∧
      (s.roster.due = true → exec .sendCompletion s =
        .next (withFrame { sent with roster := { s.roster with due := false } } 31 (.presence (ownPresence s))))) ∧
    (Body.producer q.frame.body = some .refusalList →
      (s.bus.refusals = [] → exec .sendCompletion s = .next sent) ∧
      (∀ r rs, s.bus.refusals = r :: rs → held .refusalList (l1 ++ l2) = 0 → exec .sendCompletion s =
        .next (withFrame { sent with bus := { sent.bus with refusals := rs } } r.dst (.refuse r.kind r.reason r.tag)))) ∧
    (Body.producer q.frame.body = some .queryService →
      (s.queries = [] → exec .sendCompletion s = .next sent) ∧
      (∀ w ws, s.queries = w :: ws → s.station.mode = .active → held .queryService (l1 ++ l2) = 1 → exec .sendCompletion s =
        .next (withFrame { sent with queries := ws } w.asker (replyOf { sent with queries := ws } w.kind w.tag w.arg)))) ∧
    (∀ tag samples channels, q.frame.body = .measure tag samples channels → RequesterQuiet s →
      ∀ m1 e m2, Awaits s m1 e m2 → e.tag = tag → e.stage = .queued →
        exec .sendCompletion s =
          .next { sent with requester := { s.requester with pending := m1 ++ { e with stage := .sent s.cfg.reply } :: m2 } }) ∧
    (∀ a, q.frame.body = .alert a → q.orphan = false → NothingToAnnounce s →
      (∀ f ∈ s.alerts.finals, f.watch ≠ a.watch.toNat) →
      ∀ m1 r m2, s.alerts.queue = m1 ++ r :: m2 → r.watch = a.watch.toNat → r.changed = false →
        (∀ x ∈ m1 ++ m2, x.watch ≠ a.watch.toNat) →
        exec .sendCompletion s =
          .next { sent with alerts := { s.alerts with queue := m1 ++ { r with frame := none, announce := false } :: m2 } }) ∧
    (∀ n, q.frame.body = .sweep n →
      (acceptable n s.sweeps.last = false → exec .sendCompletion s = .next sent) ∧
      (acceptable n s.sweeps.last = true → ∃ t c, exec .sendCompletion s = .next t ∧ t.sweeps.last = some n ∧
        t.sweeps.current = some c ∧ c.number = n ∧ t.bus.errors = 0))

/-- KEY_FIELD_CONFLICT, and a valid frame that carries the station's own address as its source (R155, R172): an address-conflict event. The
first two take a JOINING or ACTIVE station to SILENCED for its address times 20 ms, the third to FAULT (R174); a SILENCED one is not
affected (R171). The frame given is RX_SWEEP. At the third, leaving ACTIVE and entering FAULT come in either order (R170): the waiting queries
are counted as dropped, or not (R176, log entry 20). -/
def Obligations.AddressConflictSilencesOrFaults : Prop :=
  ∀ (s : State) (l1 l2 : List QueuedFrame) (q : QueuedFrame) (n : Count) (c : Instr),
    (c = .keyFieldConflict ∧ OnLine s l1 q l2) ∨
      (c = .rxSweep s.own 31 n ∧ isStation s.own.toNat = true ∧ Wins s (Frame.key { src := s.own, dst := 31, body := .sweep n })) →
    (s.station.mode = .joining ∨ s.station.mode = .active → s.station.conflicts < 2 →
      ∃ t, exec c s = .next t ∧
        t.station.mode = .silenced ∧ t.station.conflicts = s.station.conflicts + 1 ∧
        t.station.release = some (s.own.toNat * 20) ∧ t.station.releaseReason = some .conflict ∧
        t.station.image = s.station.image ∧ t.station.faultn = s.station.faultn ∧
        t.bus.queue = [] ∧ t.bus.refusals = [] ∧ t.roster.presence = none ∧ (s.station.mode = .active → LeftActive t) ∧
        t.bus.errors = s.bus.errors ∧ t.sweeps.last = s.sweeps.last ∧ t.table = s.table ∧ t.watches = s.watches ∧
        t.alerts.groups = s.alerts.groups ∧ t.time = s.time ∧ t.trigger = s.trigger ∧ t.cadence = s.cadence) ∧
    (s.station.mode = .joining ∨ s.station.mode = .active → 2 ≤ s.station.conflicts →
      ∃ t, exec c s = .next t ∧
        t.station.mode = .fault ∧ t.station.conflicts = s.station.conflicts + 1 ∧ t.station.lastFault = some .addressConflict ∧
        t.station.faultn = .low ∧ t.station.release = none ∧ t.station.clearing = none ∧ t.station.joinWait = none ∧
        t.bus.queue = [] ∧ t.table = [] ∧ t.watches = [] ∧ t.alerts.ala = false ∧ t.alerts.alb = false ∧
        t.converter = Converter.empty ∧ t.sweeps.last = s.sweeps.last ∧ t.time = s.time ∧ t.queries = [] ∧
        (t.counters = s.counters ∨ (s.station.mode = .active ∧
          t.counters = { s.counters with queriesDropped := (satInc^[s.queries.length]) s.counters.queriesDropped }))) ∧
    (s.station.mode = .silenced → c = .rxSweep s.own 31 n → exec c s = .next s)

/-! ## Received frames that reach no block -/

/-- RX_BAD_FRAME and every frame that fails check 2 of R158, where the station receives (R160) and has no frame on the line that wins (R149): the
frame is discarded and counted. A frame cut short or with a differing check value fails check 1; a class and kind that do not go together, a
length that the kind does not allow, a source or a destination that does not suit, a field outside its range fail check 2 (R182). A frame that
does not win the line from the station's own is not received at all (R149). A REPLY to the station is counted as unexpected (R159).
Nothing else changes, but for the roster's part in the REPLY. -/
def Obligations.DiscardedFramesAreCounted : Prop :=
  (∀ s : State, s.station.mode ≠ .fault → (s.station.mode = .unloaded → s.station.rstnHigh = true) →
    (∀ bytes : List Byte, (∀ q ∈ onLineFrames s.bus, ∃ b, bytes[0]? = some b ∧ b.toNat / 2 < Frame.key q.frame) →
      (readBytes bytes = .checkFailed → exec (.rxBadFrame bytes) s =
        .next { s with counters := { s.counters with rxCheckErrors := satInc s.counters.rxCheckErrors } }) ∧
      (readBytes bytes = .malformed → exec (.rxBadFrame bytes) s =
        .next { s with counters := { s.counters with rxMalformed := satInc s.counters.rxMalformed } }) ∧
      ∀ c f, readBytes bytes = .frame f → c.frame = some f → exec (.rxBadFrame bytes) s = exec c s) ∧
    (∀ (c : Instr) (f : Frame), c.frame = some f → Frame.wellFormed f = false → Wins s (Frame.key f) → exec c s =
      .next { s with counters := { s.counters with rxMalformed := satInc s.counters.rxMalformed } })) ∧
  (∀ (s : State) (q : QueuedFrame), q ∈ onLineFrames s.bus →
    (∀ bytes : List Byte, (∀ b, bytes[0]? = some b → Frame.key q.frame ≤ b.toNat / 2) → exec (.rxBadFrame bytes) s = .next s) ∧
    ∀ (c : Instr) (f : Frame), c.frame = some f → Frame.key q.frame ≤ Frame.key f → exec c s = .next s) ∧
  (∀ bytes : List Byte, bytes.length < 3 → readBytes bytes = .checkFailed) ∧
  (∀ (h0 h1 n : Byte) (rest : List Byte),
    let bytes := h0 :: h1 :: n :: rest
    let whole := n.toNat + 2 ≤ rest.length ∧
      (rest.drop n.toNat).take 2 = wordBytes (checkValue (h0 :: h1 :: n :: rest.take n.toNat))
    let cls := h0.toNat / 64
    let code := h0.toNat % 2 * 8 + h1.toNat / 32
    (¬ whole → readBytes bytes = .checkFailed) ∧
    (whole → n.toNat ∉ allowedLengths cls code → readBytes bytes = .malformed) ∧
    (whole → n.toNat ∈ allowedLengths cls code → ∃ f, readBytes bytes = .frame f ∧ f.src.toNat = h0.toNat / 2 % 32 ∧
      f.dst.toNat = h1.toNat % 32 ∧ (Body.cls f.body).toNat = cls ∧ (Body.code f.body).toNat = code)) ∧
  (∀ f : Frame, Frame.wellFormed f = true ↔
    let directed := 1 ≤ f.dst.toNat ∧ f.dst.toNat ≤ 30
    1 ≤ f.src.toNat ∧ f.src.toNat ≤ 30 ∧
    match f.body with
    | .presence p => f.dst = 31 ∧ p.alerts.toNat ≤ 16
    | .sweep _ => f.dst = 31
    | .measure _ _ channels => directed ∧ channels.length ≤ 8
    | .result cause items => f.dst = 31 ∧ 1 ≤ items.length ∧ items.length ≤ 8 ∧
        ∀ requester tag, cause = .measure requester tag → 1 ≤ requester.toNat ∧ requester.toNat ≤ 30
    | .refuse .. => directed
    | .alert a => f.dst = 31 ∧ valueOrNone a.value.toInt
    | .ack _ => directed
    | .query .. => directed
    | .reply _ kind notHeld content => directed ∧ content.length ≤ 30 ∧ (notHeld = false → ReplyInRange kind content)) ∧
  ∀ (s : State) (src : Addr) (tag : Tag) (kind : BitVec 3) (notHeld : Bool) (content : List Byte),
    FromPeer s src (.reply tag kind notHeld content) →
    Frame.wellFormed { src := src, dst := s.own, body := .reply tag kind notHeld content } = true →
    exec (.rxReply src s.own tag kind notHeld content) s = .next { heardFrom s src (knownInfo s src) with
      counters := { s.counters with unexpectedReply := satInc s.counters.unexpectedReply } }

/-! ## Station life -/

/-- JOIN_WAIT_EXPIRY, RELEASE_TIMER_EXPIRY and CONFLICT_CLEARING_EXPIRY (R169, R171, R173): the station enters ACTIVE, returns to JOINING
with a PRESENCE, or forgets its conflicts. The entry into ACTIVE is one with nothing to announce and no stale watched key. -/
def Obligations.LifeTimersMoveTheStation : Prop :=
  (∀ s : State, s.station.mode = .joining → s.station.joinWait = some 0 → NothingToAnnounce s → RequesterQuiet s →
    (∀ p ∈ s.table, p.2.pinned = true → ixStation p.1 ≠ s.own.toNat → p.2.state = .fresh) →
    exec .joinWaitExpiry s = .next { s with
      station := { s.station with mode := .active, joinWait := none, clearing := some 60000 }
      sweeps := { s.sweeps with
        call := if s.cfg.sweepPeriod = 0 then none else some (s.cfg.sweepPeriod + s.own.toNat * 4) }
      alerts := { s.alerts with timer := some s.cfg.alertRepeat }
      draws := s.draws + 2 }) ∧
  (∀ s : State, s.station.mode = .silenced → s.station.release = some 0 → s.bus.queue = [] →
    let joining := { s with
      station := { s.station with
        mode := .joining, joinWait := some (2 * periodMs s.cfg.presence), release := none, releaseReason := none }
      roster := { s.roster with presence := some (periodMs s.cfg.presence) }
      bus := { s.bus with errors := 0 } }
    exec .releaseTimerExpiry s = .next (withFrame joining 31 (.presence (ownPresence joining)))) ∧
  ∀ s : State, s.station.mode = .active → s.station.clearing = some 0 →
    exec .conflictClearingExpiry s = .next { s with station := { s.station with conflicts := 0, clearing := none } }

/-! ## Queries -/

/-- QUERY_STATUS, QUERY_VALUE, QUERY_ALERTS, QUERY_WATCH, QUERY_TALLY, QUERY_GROUP and QUERY_ROSTER at an ACTIVE station with a REPLY place
free (R175, R177): the REPLY enters the transmit queue at once, and nothing else changes. It holds the content of Table 12-3 (R62, R80,
R100, R121, R147, R179, R183), or NOT_HELD where there is no entry, no watch or no tally (R178). A field for which the spec gives no coding
when it is absent, the group of an ALERTS record or the candidate zone of a WATCH reply, holds 0, as does L in STATUS part 0 before L is
set: the model's choice (log entry 15). A ROSTER query for the asker itself is left out of the first part: the roster may take its frame
first or last (log entry 6). -/
def Obligations.QueriesAreAnswered : Prop :=
  (∀ (s : State) (src : Addr) (kind : BitVec 3) (tag : Tag) (arg : QueryArg),
    FromPeer s src (.query kind tag arg) → s.station.mode = .active → isStation s.own.toNat = true → s.queries = [] →
    held .queryService s.bus.queue < 2 → argSuits kind arg = true → (kind = 6 → arg ≠ .one (src.setWidth 8)) →
    exec (queryCommand kind src s.own tag arg) s =
      .next (withFrame (heardFrom s src (knownInfo s src)) src (replyOf s kind tag arg))) ∧
  ∀ (s : State) (a c : Byte),
    replyContent 0 .absent s = some (status0 s) ∧
    (a.toNat ≤ 2 → replyContent 0 (.one a) s = some (if a = 0 then status0 s else status12 a.toNat s)) ∧
    replyContent 1 (.two a c) s = (s.table.find (a.toNat * 8 + c.toNat)).map (valueReply s (a.toNat * 8 + c.toNat)) ∧
    replyContent 2 (.one a) s = some (alertsReply s a.toNat) ∧
    replyContent 3 (.one a) s = (match s.cfg.watches[a.toNat]?, s.watches[a.toNat]? with
      | some w, some r => some (watchReply s a.toNat w r)
      | _, _ => none) ∧
    (a.toNat ≤ 1 → replyContent 4 (.one a) s =
      (if a = 0 then s.sweeps.current else s.sweeps.previous).map (tallyReply a.toNat)) ∧
    (∀ g, s.alerts.groups[a.toNat]? = some g → ∃ S : StationSet,
      (∀ x, x < 32 → (setHas S x = true ↔ (g.asserters.find x).isSome = true)) ∧
      replyContent 5 (.one a) s = some (groupReply a.toNat g S)) ∧
    replyContent 6 (.one a) s = some (
      if s.roster.self.map BitVec.toNat = some a.toNat then [a, b8 (4 + 128), 0, 0] ++ presencePayload (ownPresence s)
      else peerReply s a.toNat (s.roster.peers.find a.toNat))

/-- A QUERY whose argument does not suit its kind is refused with BAD_REQUEST, every QUERY_UNKNOWN_KIND among them (R175, R182), and one that
finds two queries waiting with BUSY; Table 11-1 says what suits. The refusal is handed to the refusal list (R157). Nothing else changes. -/
def Obligations.UnsuitableQueriesAreRefused : Prop :=
  (∀ (kind : BitVec 3) (arg : QueryArg), argSuits kind arg = true ↔
    (kind = 0 ∧ (arg = .absent ∨ ∃ a, arg = .one a ∧ a.toNat ≤ 2)) ∨
    (kind = 1 ∧ ∃ a c, arg = .two a c ∧ 1 ≤ a.toNat ∧ a.toNat ≤ 30 ∧ c.toNat ≤ 7) ∨
    (kind = 2 ∧ ∃ a, arg = .one a ∧ a.toNat ≤ 15) ∨
    (kind = 3 ∧ ∃ a, arg = .one a ∧ a.toNat ≤ 15) ∨
    (kind = 4 ∧ ∃ a, arg = .one a ∧ a.toNat ≤ 1) ∨
    (kind = 5 ∧ ∃ a, arg = .one a ∧ a.toNat ≤ 7) ∨
    (kind = 6 ∧ ∃ a, arg = .one a ∧ 1 ≤ a.toNat ∧ a.toNat ≤ 30)) ∧
  ∀ (s : State) (src : Addr) (kind : BitVec 3) (tag : Tag) (arg : QueryArg),
    FromPeer s src (.query kind tag arg) → s.station.mode = .active → isStation s.own.toNat = true →
    let h := heardFrom s src (knownInfo s src)
    (argSuits kind arg = false → exec (queryCommand kind src s.own tag arg) s = .next (handedOver h src .query 3 tag)) ∧
    (argSuits kind arg = true → 2 ≤ s.queries.length →
      exec (queryCommand kind src s.own tag arg) s = .next (handedOver h src .query 4 tag))

/-- The content of every REPLY fits the payload of its kind (Table 12-1, R183): 30 bytes at most, whatever the state. -/
def Obligations.ReplyFitsPayload : Prop :=
  ∀ (s : State) (kind : BitVec 3) (arg : QueryArg) (content : List Byte),
    replyContent kind arg s = some content → content.length ≤ 30

/-! ## The whole station -/

/-- Every frame whose payload has a length its kind allows is read back whole from its bytes on the line (R182, R183): no field is dropped,
and the check value matches. The check value is that of a register of 16 bits which starts at FFFFh and takes each byte from its most significant
bit: shifted left, and combined with 1021h where its top bit and the data bit differ (R182). -/
def Obligations.FrameBytesReadBack : Prop :=
  (∀ f : Frame, Body.lengthOk f.body = true → readBytes (frameBytes f) = .frame f) ∧
  checkValue [] = 0xFFFF ∧
  ∀ (bytes : List Byte) (b : Byte), checkValue (bytes ++ [b]) =
    [7, 6, 5, 4, 3, 2, 1, 0].foldl
      (fun (r : BitVec 16) i => if r.getLsbD 15 = b.getLsbD i then r <<< 1 else (r <<< 1) ^^^ 0x1021) (checkValue bytes)

/-- Every step keeps the law of station control and the law of the plant's work. -/
def Obligations.StepsKeepLifeAndService : Prop :=
  ∀ s t : State, step s = .next t → (LifeLaw s → LifeLaw t) ∧ (ServiceLaw s → ServiceLaw t)

/-- Every step keeps the law of the transmit queue. -/
def Obligations.StepsKeepQueue : Prop := ∀ s t : State, step s = .next t → QueueLaw s → QueueLaw t

/-- Every step keeps the law of the converter's places and the law of the pending table (R124): four entries at most, no two with one tag, no
two with one target. -/
def Obligations.StepsKeepConverterAndRequester : Prop :=
  ∀ s t : State, step s = .next t → (ConverterLaw s → ConverterLaw t) ∧ (RequesterLaw s → RequesterLaw t)

/-- Every step keeps the law of the value table and the law of the roster. -/
def Obligations.StepsKeepTableAndRoster : Prop :=
  ∀ s t : State, step s = .next t → (TableLaw s → TableLaw t) ∧ (RosterLaw s → RosterLaw t)

/-- Every step keeps the law of the sweep unit. -/
def Obligations.StepsKeepSweeps : Prop := ∀ s t : State, step s = .next t → SweepLaw s → SweepLaw t

/-- Every step keeps the law of the alert queue and the law of the group table and the alarm lines. -/
def Obligations.StepsKeepAlertsAndGroups : Prop :=
  ∀ s t : State, step s = .next t → (AlertLaw s → AlertLaw t) ∧ (GroupLaw s → GroupLaw t)

/-- In FAULT the station is still (R32, R160, R174): no command but a reset changes anything in it, apart from the levels of its two input
lines. The premises are what the entry into FAULT leaves. -/
def Obligations.FaultIsStill : Prop :=
  ∀ (s : State) (c : Instr), s.station.mode = .fault → s.converter.running = none → s.bus.queue = [] →
    s.bus.flushed = none → s.requester.pending = [] → c ≠ .powerOnReset → c ≠ .lineReset →
    exec c s = .next (match c with
      | .trgChange level => { s with trigger := { s.trigger with line := level } }
      | .rstnHigh => { s with station := { s.station with rstnHigh := true } }
      | _ => s)

/-- No counter falls except at a reset (R180), and L is replaced by a newer number alone (R44). -/
def Obligations.CountersAndLastSweepNeverFall : Prop :=
  ∀ (s t : State) (c : Instr), c ≠ .powerOnReset → c ≠ .lineReset → exec c s = .next t →
    List.Forall₂ (fun a b : Count => a.toNat ≤ b.toNat)
      (s.counters.first ++ s.counters.second) (t.counters.first ++ t.counters.second) ∧
    (∀ l, s.sweeps.last = some l → t.sweeps.last = some l ∨ ∃ n, t.sweeps.last = some n ∧ newer n l = true)

/-! ## Watches whose sources are lost -/

/-- SOURCE_LOST at a station with one watch (R83). REPLY_TIMER_EXPIRY after the third attempt gives up one key of the watch: the key's mark
makes SOURCE_LOST active when no other source is marked (R95), which raises the record there is or a new one, with no value of its own (R103),
and the record joins the group when it had no cause (R114); with another source marked nothing is reported. RX_RESULT for a marked key
makes it inactive when no other source is marked (R96): the record keeps THRESHOLD, or waits cleared for its acknowledgement, or goes with a final
announcement (R104, R105), and it leaves the group with its last cause (R114). The ALERT quota is full, so no ALERT is formed yet (R107),
and the watch is ON_SWEEP at the second, so that it is not evaluated (R86). -/
def Obligations.SourceLostFollowsMarks : Prop :=
  ∀ (s : State) (c : WatchConfig) (r : WatchRun) (k : Nat) (en : Entry),
    s.cfg.watches = [c] → s.watches = [r] → s.alerts.groups.length = 8 → RequesterQuiet s → 2 ≤ held .alertUnit s.bus.queue →
    s.table.find k = some en → k ∈ watchKeys c →
    let others := ∃ j ∈ watchKeys c, j ≠ k ∧ Marked s j
    let inert : Causes := { threshold := false, sourceLost := false }
    (∀ l1 e l2, Awaits s l1 e l2 → e.attempts = 3 → e.stage = .sent 0 → ixStation k = e.target.toNat →
      e.channels = BitVec.twoPow 8 (ixChannel k) → en.unreachable = false →
      ∃ T H, GivenUp s e.target e.channels T H ∧
        let gone := { s with table := T, requester := { s.requester with holdOffs := H, pending := l1 ++ l2 } }
        (others → exec (.replyTimerExpiry e.tag) s = .next gone) ∧
        (¬ others → s.alerts.queue = [] → s.alerts.finals = [] → ∃ G A B, OwnAsserts s 0 c true G A B ∧
          exec (.replyTimerExpiry e.tag) s = .next { gone with
            alerts := { s.alerts with
              seq := s.alerts.seq + 1, groups := G, ala := A, alb := B
              queue := [{ watch := 0, sequence := s.alerts.seq + 1, causes := { threshold := false, sourceLost := true },
                          acknowledged := false, announce := true, frame := none, changed := true, zone := r.zone,
                          value := none }] } }) ∧
        (¬ others → ∀ a, s.alerts.queue = [a] → a.watch = 0 → ∃ G A B,
          (a.causes = inert → OwnAsserts s 0 c true G A B) ∧
          (a.causes ≠ inert → G = s.alerts.groups ∧ A = s.alerts.ala ∧ B = s.alerts.alb) ∧
          exec (.replyTimerExpiry e.tag) s = .next { gone with
            alerts := { s.alerts with
              seq := s.alerts.seq + 1, groups := G, ala := A, alb := B
              queue := [{ a with
                sequence := s.alerts.seq + 1, causes := { a.causes with sourceLost := true }, acknowledged := false,
                announce := true, changed := true, zone := r.zone }] } })) ∧
    (∀ (src : Addr) (cause : Cause) (it : Item), FromPeer s src (.result cause [it]) → Cause.inRange cause = true →
      Cause.cls cause ≠ .sweep → (∀ x ∈ s.requester.pending, x.target ≠ src) → c.moment = .onSweep →
      k = keyIx src it.channel.toNat → en.unreachable = true →
      ∃ T H, RenewedBy s src cause [it] T ∧ HoldOffsEnded s src [it] H ∧
        let h := { heardFrom s src (knownInfo s src) with table := T, requester := { s.requester with holdOffs := H } }
        (others → exec (.rxResult src 31 cause [it]) s = .next h) ∧
        (¬ others → ∀ a, s.alerts.queue = [a] → a.watch = 0 → a.causes.sourceLost = true →
          let left := { a with
            causes := { a.causes with sourceLost := false }, announce := true, changed := true, zone := r.zone }
          (a.causes.threshold = true → exec (.rxResult src 31 cause [it]) s =
            .next { h with alerts := { s.alerts with queue := [left] } }) ∧
          (a.causes.threshold = false → ∃ G A B, OwnAsserts s 0 c false G A B ∧
            exec (.rxResult src 31 cause [it]) s = .next { h with
              alerts := { s.alerts with
                groups := G, ala := A, alb := B
                queue := if a.acknowledged then [] else [left]
                finals := if a.acknowledged
                  then s.alerts.finals ++
                    [{ watch := 0, sequence := a.sequence, zone := r.zone, value := a.value, frame := a.frame }]
                  else s.alerts.finals } })))
end

