-- ==== Sys2Proof/Laws/State.lean ====
section
/-! SUPPORT. What the plainest updates of the state do to each of its fields, true by `rfl`: a counter raised, a frame queued, a change
of the converter's places, the settings read through the kept image. -/

namespace Sys2Proof.Machine

@[simp] theorem bump_counters (c : Counter) (s : State) : (bump c s).counters = s.counters.bump c := rfl

@[simp] theorem enqueue_queue (dst : Addr) (body : Body) (s : State) :
    (enqueue dst body s).bus.queue = s.bus.queue ++
      [{ frame := { src := s.own, dst := dst, body := body }, attempts := 0, onLine := false, withdrawn := false, orphan := false }] := rfl

@[simp] theorem enqueue_refusals (dst : Addr) (body : Body) (s : State) : (enqueue dst body s).bus.refusals = s.bus.refusals := rfl

@[simp] theorem enqueue_errors (dst : Addr) (body : Body) (s : State) : (enqueue dst body s).bus.errors = s.bus.errors := rfl

@[simp] theorem enqueue_flushed (dst : Addr) (body : Body) (s : State) :
    (enqueue dst body s).bus.flushed = s.bus.flushed := rfl

@[simp] theorem changeConverter_converter (f : Converter → Converter) (s : State) :
    (changeConverter f s).converter = Converter.proceed (f s.converter) := rfl

/-- The settings are those of the kept image, whatever else changes. -/
theorem cfg_of_station {s t : State} (h : t.station = s.station) : t.cfg = s.cfg := by simp only [State.cfg, h]

/-- The own address is that of the kept image. -/
theorem own_of_station {s t : State} (h : t.station = s.station) : t.own = s.own := by simp only [State.own, cfg_of_station h]

/-- Whether the station is ACTIVE is station control's. -/
theorem isActive_of_station {s t : State} (h : t.station = s.station) : t.isActive = s.isActive := by simp only [State.isActive, h]

/-- Whether the station works is station control's. -/
theorem works_of_station {s t : State} (h : t.station = s.station) : t.works = s.works := by simp only [State.works, h]

theorem isActive_iff (s : State) : s.isActive = true ↔ s.station.mode = .active := by simp [State.isActive]

/-- A station that is ACTIVE works. -/
theorem works_of_isActive {s : State} (h : s.isActive = true) : s.works = true := by
  rw [isActive_iff] at h
  simp [State.works, h]

end Sys2Proof.Machine
end

