-- ==== Sys2Proof/Laws/Frames.lean ====
section
/-! SUPPORT. What each shared operation leaves as it was, one lemma an operation: the fields of `State` that are not named in it are the
only ones it can change. -/

namespace Sys2Proof.Machine

/-- What holds of every allowed order holds of the order taken. -/
theorem settle_induct {P : State → Prop} {n : Nat} {first : State} {rest : List State} (h0 : P first) (h : ∀ r ∈ rest, P r) :
    P (settle n first rest) := by
  unfold settle
  split
  · exact h0
  · rcases hr : (first :: rest)[Config.orderChoice n % (rest.length + 1)]? with _ | r
    · simpa using h0
    · have := List.mem_of_getElem? hr
      rcases List.mem_cons.mp this with e | e
      · simpa [e] using h0
      · simpa using h r e

/-- A field that every allowed order leaves alike. -/
theorem settle_field {α : Type} (f : State → α) {n : Nat} {first : State} {rest : List State} (h : ∀ r ∈ rest, f r = f first) :
    f (settle n first rest) = f first :=
  settle_induct (P := fun t => f t = f first) rfl h

/-- Two events of one step leave what both orders leave. -/
theorem eitherFirst_induct {P : State → Prop} {f g : State → State} {s : State}
    (hfg : P (g (f { s with draws := s.draws + 1 }))) (hgf : P (f (g { s with draws := s.draws + 1 }))) : P (eitherFirst f g s) :=
  settle_induct hfg (by simpa using hgf)

/-- Events that commute come out in the one way both orders give. -/
theorem eitherFirst_of_comm {f g : State → State} {s : State}
    (h : f (g { s with draws := s.draws + 1 }) = g (f { s with draws := s.draws + 1 })) :
    eitherFirst f g s = g (f { s with draws := s.draws + 1 }) :=
  eitherFirst_induct (P := fun t => t = g (f { s with draws := s.draws + 1 })) rfl h

/-- Three parts of one step leave what all six orders leave. -/
theorem anyOrder_induct {P : State → Prop} {f g h : State → State} {s s1 : State} (hs : s1 = { s with draws := s.draws + 1 })
    (h1 : P (h (g (f s1)))) (h2 : P (g (h (f s1)))) (h3 : P (h (f (g s1)))) (h4 : P (f (h (g s1)))) (h5 : P (g (f (h s1))))
    (h6 : P (f (g (h s1)))) : P (anyOrder f g h s) := by
  subst hs
  refine settle_induct h1 ?_
  simp only [List.mem_cons, List.not_mem_nil, or_false]
  rintro r (rfl | rfl | rfl | rfl | rfl) <;> assumption

/-- With nothing for the third part to do, three parts are two. -/
theorem anyOrder_id_induct {P : State → Prop} {f g : State → State} {s s1 : State} (hs : s1 = { s with draws := s.draws + 1 })
    (hfg : P (g (f s1))) (hgf : P (f (g s1))) : P (anyOrder f g id s) :=
  anyOrder_induct hs hfg hfg hgf hgf hfg hgf

/-- Parts that come out alike in every order come out so. -/
theorem anyOrder_of_comm {f g h : State → State} {s s1 t : State} (hs : s1 = { s with draws := s.draws + 1 })
    (h1 : h (g (f s1)) = t) (h2 : g (h (f s1)) = t) (h3 : h (f (g s1)) = t) (h4 : f (h (g s1)) = t) (h5 : g (f (h s1)) = t)
    (h6 : f (g (h s1)) = t) : anyOrder f g h s = t :=
  anyOrder_induct (P := fun r => r = t) hs h1 h2 h3 h4 h5 h6

/-! Shared operations (Machine/Ops.lean) -/

@[simp] theorem bump_frame (c : Counter) (s : State) :
    (bump c s).station = s.station ∧ (bump c s).time = s.time ∧ (bump c s).trigger = s.trigger ∧
    (bump c s).cadence = s.cadence ∧ (bump c s).converter = s.converter ∧ (bump c s).sweeps = s.sweeps ∧
    (bump c s).table = s.table ∧ (bump c s).watches = s.watches ∧ (bump c s).alerts = s.alerts ∧
    (bump c s).requester = s.requester ∧ (bump c s).roster = s.roster ∧ (bump c s).bus = s.bus ∧
    (bump c s).queries = s.queries ∧ (bump c s).draws = s.draws ∧ (bump c s).pending = s.pending := by
  simp [bump]

@[simp] theorem enqueue_frame (dst : Addr) (body : Body) (s : State) :
    (enqueue dst body s).station = s.station ∧ (enqueue dst body s).time = s.time ∧ (enqueue dst body s).trigger = s.trigger ∧
    (enqueue dst body s).cadence = s.cadence ∧ (enqueue dst body s).converter = s.converter ∧
    (enqueue dst body s).sweeps = s.sweeps ∧ (enqueue dst body s).table = s.table ∧ (enqueue dst body s).watches = s.watches ∧
    (enqueue dst body s).alerts = s.alerts ∧ (enqueue dst body s).requester = s.requester ∧
    (enqueue dst body s).roster = s.roster ∧ (enqueue dst body s).queries = s.queries ∧
    (enqueue dst body s).counters = s.counters ∧ (enqueue dst body s).draws = s.draws ∧
    (enqueue dst body s).pending = s.pending := by
  simp [enqueue]

/-! Alert unit (Machine/Alerts.lean) -/

@[simp] theorem announceOne_frame (s : State) :
    (announceOne s).station = s.station ∧ (announceOne s).time = s.time ∧ (announceOne s).trigger = s.trigger ∧
    (announceOne s).cadence = s.cadence ∧ (announceOne s).converter = s.converter ∧ (announceOne s).sweeps = s.sweeps ∧
    (announceOne s).table = s.table ∧ (announceOne s).watches = s.watches ∧ (announceOne s).requester = s.requester ∧
    (announceOne s).roster = s.roster ∧ (announceOne s).queries = s.queries ∧ (announceOne s).counters = s.counters ∧
    (announceOne s).draws = s.draws ∧ (announceOne s).pending = s.pending := by
  unfold announceOne; split <;> [skip; simp]; split <;> [simp; (split <;> simp)]

@[simp] theorem announce_frame (s : State) :
    (announce s).station = s.station ∧ (announce s).time = s.time ∧ (announce s).trigger = s.trigger ∧
    (announce s).cadence = s.cadence ∧ (announce s).converter = s.converter ∧ (announce s).sweeps = s.sweeps ∧
    (announce s).table = s.table ∧ (announce s).watches = s.watches ∧ (announce s).requester = s.requester ∧
    (announce s).roster = s.roster ∧ (announce s).queries = s.queries ∧ (announce s).counters = s.counters ∧
    (announce s).draws = s.draws ∧ (announce s).pending = s.pending := by
  simp [announce]

@[simp] theorem changeGroup_frame (g : Nat) (f : Map WatchSet → Map WatchSet) (s : State) :
    (changeGroup g f s).station = s.station ∧ (changeGroup g f s).time = s.time ∧ (changeGroup g f s).trigger = s.trigger ∧
    (changeGroup g f s).cadence = s.cadence ∧ (changeGroup g f s).converter = s.converter ∧
    (changeGroup g f s).sweeps = s.sweeps ∧ (changeGroup g f s).table = s.table ∧ (changeGroup g f s).watches = s.watches ∧
    (changeGroup g f s).requester = s.requester ∧ (changeGroup g f s).roster = s.roster ∧ (changeGroup g f s).bus = s.bus ∧
    (changeGroup g f s).queries = s.queries ∧ (changeGroup g f s).counters = s.counters ∧ (changeGroup g f s).draws = s.draws ∧
    (changeGroup g f s).pending = s.pending := by
  simp [changeGroup]

@[simp] theorem ownAssert_frame (w : Nat) (b : Bool) (s : State) :
    (ownAssert w b s).station = s.station ∧ (ownAssert w b s).time = s.time ∧ (ownAssert w b s).trigger = s.trigger ∧
    (ownAssert w b s).cadence = s.cadence ∧ (ownAssert w b s).converter = s.converter ∧ (ownAssert w b s).sweeps = s.sweeps ∧
    (ownAssert w b s).table = s.table ∧ (ownAssert w b s).watches = s.watches ∧ (ownAssert w b s).requester = s.requester ∧
    (ownAssert w b s).roster = s.roster ∧ (ownAssert w b s).bus = s.bus ∧ (ownAssert w b s).queries = s.queries ∧
    (ownAssert w b s).counters = s.counters ∧ (ownAssert w b s).draws = s.draws ∧ (ownAssert w b s).pending = s.pending := by
  unfold ownAssert; split <;> simp

@[simp] theorem forgetAsserter_frame (station : Nat) (s : State) :
    (forgetAsserter station s).station = s.station ∧ (forgetAsserter station s).time = s.time ∧
    (forgetAsserter station s).trigger = s.trigger ∧ (forgetAsserter station s).cadence = s.cadence ∧
    (forgetAsserter station s).converter = s.converter ∧ (forgetAsserter station s).sweeps = s.sweeps ∧
    (forgetAsserter station s).table = s.table ∧ (forgetAsserter station s).watches = s.watches ∧
    (forgetAsserter station s).requester = s.requester ∧ (forgetAsserter station s).roster = s.roster ∧
    (forgetAsserter station s).bus = s.bus ∧ (forgetAsserter station s).queries = s.queries ∧
    (forgetAsserter station s).counters = s.counters ∧ (forgetAsserter station s).draws = s.draws ∧
    (forgetAsserter station s).pending = s.pending := by
  simp [forgetAsserter]

@[simp] theorem dropFinal_frame (w : Nat) (s : State) :
    (dropFinal w s).station = s.station ∧ (dropFinal w s).time = s.time ∧ (dropFinal w s).trigger = s.trigger ∧
    (dropFinal w s).cadence = s.cadence ∧ (dropFinal w s).converter = s.converter ∧ (dropFinal w s).sweeps = s.sweeps ∧
    (dropFinal w s).table = s.table ∧ (dropFinal w s).watches = s.watches ∧ (dropFinal w s).requester = s.requester ∧
    (dropFinal w s).roster = s.roster ∧ (dropFinal w s).queries = s.queries ∧ (dropFinal w s).counters = s.counters ∧
    (dropFinal w s).draws = s.draws ∧ (dropFinal w s).pending = s.pending := by
  unfold dropFinal; split <;> simp

@[simp] theorem ensureRecord_frame (w : Nat) (s : State) :
    (ensureRecord w s).station = s.station ∧ (ensureRecord w s).time = s.time ∧ (ensureRecord w s).trigger = s.trigger ∧
    (ensureRecord w s).cadence = s.cadence ∧ (ensureRecord w s).converter = s.converter ∧ (ensureRecord w s).sweeps = s.sweeps ∧
    (ensureRecord w s).table = s.table ∧ (ensureRecord w s).watches = s.watches ∧ (ensureRecord w s).requester = s.requester ∧
    (ensureRecord w s).roster = s.roster ∧ (ensureRecord w s).queries = s.queries ∧ (ensureRecord w s).counters = s.counters ∧
    (ensureRecord w s).draws = s.draws ∧ (ensureRecord w s).pending = s.pending := by
  unfold ensureRecord; split <;> simp

@[simp] theorem raiseAlert_frame (w : Nat) (cause : AlertCause) (zone : Zone) (x : Option Int) (s : State) :
    (raiseAlert w cause zone x s).station = s.station ∧ (raiseAlert w cause zone x s).time = s.time ∧
    (raiseAlert w cause zone x s).trigger = s.trigger ∧ (raiseAlert w cause zone x s).cadence = s.cadence ∧
    (raiseAlert w cause zone x s).converter = s.converter ∧ (raiseAlert w cause zone x s).sweeps = s.sweeps ∧
    (raiseAlert w cause zone x s).table = s.table ∧ (raiseAlert w cause zone x s).watches = s.watches ∧
    (raiseAlert w cause zone x s).requester = s.requester ∧ (raiseAlert w cause zone x s).roster = s.roster ∧
    (raiseAlert w cause zone x s).queries = s.queries ∧ (raiseAlert w cause zone x s).counters = s.counters ∧
    (raiseAlert w cause zone x s).draws = s.draws ∧ (raiseAlert w cause zone x s).pending = s.pending := by
  simp only [raiseAlert]; split <;> simp

@[simp] theorem removeRecord_frame (r : AlertRecord) (s : State) :
    (removeRecord r s).station = s.station ∧ (removeRecord r s).time = s.time ∧ (removeRecord r s).trigger = s.trigger ∧
    (removeRecord r s).cadence = s.cadence ∧ (removeRecord r s).converter = s.converter ∧ (removeRecord r s).sweeps = s.sweeps ∧
    (removeRecord r s).table = s.table ∧ (removeRecord r s).watches = s.watches ∧ (removeRecord r s).requester = s.requester ∧
    (removeRecord r s).roster = s.roster ∧ (removeRecord r s).bus = s.bus ∧ (removeRecord r s).queries = s.queries ∧
    (removeRecord r s).counters = s.counters ∧ (removeRecord r s).draws = s.draws ∧ (removeRecord r s).pending = s.pending := by
  simp [removeRecord]

@[simp] theorem deactivateAlert_frame (w : Nat) (cause : AlertCause) (zone : Zone) (x : Option Int) (s : State) :
    (deactivateAlert w cause zone x s).station = s.station ∧ (deactivateAlert w cause zone x s).time = s.time ∧
    (deactivateAlert w cause zone x s).trigger = s.trigger ∧ (deactivateAlert w cause zone x s).cadence = s.cadence ∧
    (deactivateAlert w cause zone x s).converter = s.converter ∧ (deactivateAlert w cause zone x s).sweeps = s.sweeps ∧
    (deactivateAlert w cause zone x s).table = s.table ∧ (deactivateAlert w cause zone x s).watches = s.watches ∧
    (deactivateAlert w cause zone x s).requester = s.requester ∧ (deactivateAlert w cause zone x s).roster = s.roster ∧
    (deactivateAlert w cause zone x s).queries = s.queries ∧ (deactivateAlert w cause zone x s).counters = s.counters ∧
    (deactivateAlert w cause zone x s).draws = s.draws ∧ (deactivateAlert w cause zone x s).pending = s.pending := by
  simp only [deactivateAlert]; split <;> [simp; (split <;> [(split <;> [(split <;> simp); simp]); simp])]

@[simp] theorem takeAck_frame (q : Count) (s : State) :
    (takeAck q s).station = s.station ∧ (takeAck q s).time = s.time ∧ (takeAck q s).trigger = s.trigger ∧
    (takeAck q s).cadence = s.cadence ∧ (takeAck q s).converter = s.converter ∧ (takeAck q s).sweeps = s.sweeps ∧
    (takeAck q s).table = s.table ∧ (takeAck q s).watches = s.watches ∧ (takeAck q s).requester = s.requester ∧
    (takeAck q s).roster = s.roster ∧ (takeAck q s).queries = s.queries ∧ (takeAck q s).draws = s.draws ∧
    (takeAck q s).pending = s.pending := by
  simp only [takeAck]; split <;> [simp; (split <;> simp)]

@[simp] theorem takeAlert_frame (src : Addr) (a : Alert) (s : State) :
    (takeAlert src a s).station = s.station ∧ (takeAlert src a s).time = s.time ∧ (takeAlert src a s).trigger = s.trigger ∧
    (takeAlert src a s).cadence = s.cadence ∧ (takeAlert src a s).converter = s.converter ∧
    (takeAlert src a s).sweeps = s.sweeps ∧ (takeAlert src a s).table = s.table ∧ (takeAlert src a s).watches = s.watches ∧
    (takeAlert src a s).requester = s.requester ∧ (takeAlert src a s).roster = s.roster ∧ (takeAlert src a s).bus = s.bus ∧
    (takeAlert src a s).queries = s.queries ∧ (takeAlert src a s).counters = s.counters ∧ (takeAlert src a s).draws = s.draws ∧
    (takeAlert src a s).pending = s.pending := by
  unfold takeAlert; split <;> simp

@[simp] theorem markAnnounce_frame (p : AlertRecord → Bool) (s : State) :
    (markAnnounce p s).station = s.station ∧ (markAnnounce p s).time = s.time ∧ (markAnnounce p s).trigger = s.trigger ∧
    (markAnnounce p s).cadence = s.cadence ∧ (markAnnounce p s).converter = s.converter ∧ (markAnnounce p s).sweeps = s.sweeps ∧
    (markAnnounce p s).table = s.table ∧ (markAnnounce p s).watches = s.watches ∧ (markAnnounce p s).requester = s.requester ∧
    (markAnnounce p s).roster = s.roster ∧ (markAnnounce p s).bus = s.bus ∧ (markAnnounce p s).queries = s.queries ∧
    (markAnnounce p s).counters = s.counters ∧ (markAnnounce p s).draws = s.draws ∧ (markAnnounce p s).pending = s.pending := by
  simp [markAnnounce]

@[simp] theorem peerRestartedAlerts_frame (station : Nat) (s : State) :
    (peerRestartedAlerts station s).station = s.station ∧ (peerRestartedAlerts station s).time = s.time ∧
    (peerRestartedAlerts station s).trigger = s.trigger ∧ (peerRestartedAlerts station s).cadence = s.cadence ∧
    (peerRestartedAlerts station s).converter = s.converter ∧ (peerRestartedAlerts station s).sweeps = s.sweeps ∧
    (peerRestartedAlerts station s).table = s.table ∧ (peerRestartedAlerts station s).watches = s.watches ∧
    (peerRestartedAlerts station s).requester = s.requester ∧ (peerRestartedAlerts station s).roster = s.roster ∧
    (peerRestartedAlerts station s).queries = s.queries ∧ (peerRestartedAlerts station s).counters = s.counters ∧
    (peerRestartedAlerts station s).draws = s.draws ∧ (peerRestartedAlerts station s).pending = s.pending := by
  simp [peerRestartedAlerts]

@[simp] theorem alertFrameEnded_frame (q : QueuedFrame) (completed : Bool) (s : State) :
    (alertFrameEnded q completed s).station = s.station ∧ (alertFrameEnded q completed s).time = s.time ∧
    (alertFrameEnded q completed s).trigger = s.trigger ∧ (alertFrameEnded q completed s).cadence = s.cadence ∧
    (alertFrameEnded q completed s).converter = s.converter ∧ (alertFrameEnded q completed s).sweeps = s.sweeps ∧
    (alertFrameEnded q completed s).table = s.table ∧ (alertFrameEnded q completed s).watches = s.watches ∧
    (alertFrameEnded q completed s).requester = s.requester ∧ (alertFrameEnded q completed s).roster = s.roster ∧
    (alertFrameEnded q completed s).queries = s.queries ∧ (alertFrameEnded q completed s).counters = s.counters ∧
    (alertFrameEnded q completed s).draws = s.draws ∧ (alertFrameEnded q completed s).pending = s.pending := by
  unfold alertFrameEnded; split <;> [(split <;> simp); simp]

@[simp] theorem alertFramesFlushed_frame (s : State) :
    (alertFramesFlushed s).station = s.station ∧ (alertFramesFlushed s).time = s.time ∧
    (alertFramesFlushed s).trigger = s.trigger ∧ (alertFramesFlushed s).cadence = s.cadence ∧
    (alertFramesFlushed s).converter = s.converter ∧ (alertFramesFlushed s).sweeps = s.sweeps ∧
    (alertFramesFlushed s).table = s.table ∧ (alertFramesFlushed s).watches = s.watches ∧
    (alertFramesFlushed s).requester = s.requester ∧ (alertFramesFlushed s).roster = s.roster ∧
    (alertFramesFlushed s).bus = s.bus ∧ (alertFramesFlushed s).queries = s.queries ∧
    (alertFramesFlushed s).counters = s.counters ∧ (alertFramesFlushed s).draws = s.draws ∧
    (alertFramesFlushed s).pending = s.pending := by
  simp [alertFramesFlushed]

@[simp] theorem alertRepeat_frame (s : State) :
    (alertRepeat s).station = s.station ∧ (alertRepeat s).time = s.time ∧ (alertRepeat s).trigger = s.trigger ∧
    (alertRepeat s).cadence = s.cadence ∧ (alertRepeat s).converter = s.converter ∧ (alertRepeat s).sweeps = s.sweeps ∧
    (alertRepeat s).table = s.table ∧ (alertRepeat s).watches = s.watches ∧ (alertRepeat s).requester = s.requester ∧
    (alertRepeat s).roster = s.roster ∧ (alertRepeat s).queries = s.queries ∧ (alertRepeat s).counters = s.counters ∧
    (alertRepeat s).draws = s.draws ∧ (alertRepeat s).pending = s.pending := by
  unfold alertRepeat; split <;> simp

/-! Watch unit (Machine/Watches.lean) -/

@[simp] theorem setRun_frame (w : Nat) (r : WatchRun) (s : State) :
    (setRun w r s).station = s.station ∧ (setRun w r s).time = s.time ∧ (setRun w r s).trigger = s.trigger ∧
    (setRun w r s).cadence = s.cadence ∧ (setRun w r s).converter = s.converter ∧ (setRun w r s).sweeps = s.sweeps ∧
    (setRun w r s).table = s.table ∧ (setRun w r s).alerts = s.alerts ∧ (setRun w r s).requester = s.requester ∧
    (setRun w r s).roster = s.roster ∧ (setRun w r s).bus = s.bus ∧ (setRun w r s).queries = s.queries ∧
    (setRun w r s).counters = s.counters ∧ (setRun w r s).draws = s.draws ∧ (setRun w r s).pending = s.pending := by
  simp [setRun]

@[simp] theorem reportThreshold_frame (w : Nat) (c : WatchConfig) (old new : Zone) (x : Int) (s : State) :
    (reportThreshold w c old new x s).station = s.station ∧ (reportThreshold w c old new x s).time = s.time ∧
    (reportThreshold w c old new x s).trigger = s.trigger ∧ (reportThreshold w c old new x s).cadence = s.cadence ∧
    (reportThreshold w c old new x s).converter = s.converter ∧ (reportThreshold w c old new x s).sweeps = s.sweeps ∧
    (reportThreshold w c old new x s).table = s.table ∧ (reportThreshold w c old new x s).watches = s.watches ∧
    (reportThreshold w c old new x s).requester = s.requester ∧ (reportThreshold w c old new x s).roster = s.roster ∧
    (reportThreshold w c old new x s).queries = s.queries ∧ (reportThreshold w c old new x s).counters = s.counters ∧
    (reportThreshold w c old new x s).draws = s.draws ∧ (reportThreshold w c old new x s).pending = s.pending := by
  unfold reportThreshold; split <;> [simp; (split <;> simp)]

@[simp] theorem evaluate_frame (w : Nat) (c : WatchConfig) (r : WatchRun) (x : Option Int) (s : State) :
    (evaluate w c r x s).station = s.station ∧ (evaluate w c r x s).time = s.time ∧ (evaluate w c r x s).trigger = s.trigger ∧
    (evaluate w c r x s).cadence = s.cadence ∧ (evaluate w c r x s).converter = s.converter ∧
    (evaluate w c r x s).sweeps = s.sweeps ∧ (evaluate w c r x s).table = s.table ∧
    (evaluate w c r x s).requester = s.requester ∧ (evaluate w c r x s).roster = s.roster ∧
    (evaluate w c r x s).queries = s.queries ∧ (evaluate w c r x s).counters = s.counters ∧
    (evaluate w c r x s).draws = s.draws ∧ (evaluate w c r x s).pending = s.pending := by
  unfold evaluate; split <;> simp

@[simp] theorem evaluateWatch_frame (v : Map Entry → Nat → Option Int) (w : Nat) (s : State) :
    (evaluateWatch v w s).station = s.station ∧ (evaluateWatch v w s).time = s.time ∧
    (evaluateWatch v w s).trigger = s.trigger ∧ (evaluateWatch v w s).cadence = s.cadence ∧
    (evaluateWatch v w s).converter = s.converter ∧ (evaluateWatch v w s).sweeps = s.sweeps ∧
    (evaluateWatch v w s).table = s.table ∧ (evaluateWatch v w s).requester = s.requester ∧
    (evaluateWatch v w s).roster = s.roster ∧ (evaluateWatch v w s).queries = s.queries ∧
    (evaluateWatch v w s).counters = s.counters ∧ (evaluateWatch v w s).draws = s.draws ∧
    (evaluateWatch v w s).pending = s.pending := by
  unfold evaluateWatch; split <;> simp

@[simp] theorem updateNotice_frame (keys : List Nat) (s : State) :
    (updateNotice keys s).station = s.station ∧ (updateNotice keys s).time = s.time ∧
    (updateNotice keys s).trigger = s.trigger ∧ (updateNotice keys s).cadence = s.cadence ∧
    (updateNotice keys s).converter = s.converter ∧ (updateNotice keys s).sweeps = s.sweeps ∧
    (updateNotice keys s).table = s.table ∧ (updateNotice keys s).requester = s.requester ∧
    (updateNotice keys s).roster = s.roster ∧ (updateNotice keys s).queries = s.queries ∧
    (updateNotice keys s).counters = s.counters ∧ (updateNotice keys s).draws = s.draws ∧
    (updateNotice keys s).pending = s.pending := by
  unfold updateNotice
  generalize List.filter _ _ = l
  induction l generalizing s with
  | nil => simp
  | cons k l ih => simp [ih]

@[simp] theorem closeNotice_frame (n : Count) (s : State) :
    (closeNotice n s).station = s.station ∧ (closeNotice n s).time = s.time ∧ (closeNotice n s).trigger = s.trigger ∧
    (closeNotice n s).cadence = s.cadence ∧ (closeNotice n s).converter = s.converter ∧ (closeNotice n s).sweeps = s.sweeps ∧
    (closeNotice n s).table = s.table ∧ (closeNotice n s).requester = s.requester ∧ (closeNotice n s).roster = s.roster ∧
    (closeNotice n s).queries = s.queries ∧ (closeNotice n s).counters = s.counters ∧ (closeNotice n s).draws = s.draws ∧
    (closeNotice n s).pending = s.pending := by
  unfold closeNotice
  generalize List.filter _ _ = l
  induction l generalizing s with
  | nil => simp
  | cons k l ih => simp [ih]

@[simp] theorem unreachableAt_frame (k w : Nat) (s : State) :
    (unreachableAt k w s).station = s.station ∧ (unreachableAt k w s).time = s.time ∧
    (unreachableAt k w s).trigger = s.trigger ∧ (unreachableAt k w s).cadence = s.cadence ∧
    (unreachableAt k w s).converter = s.converter ∧ (unreachableAt k w s).sweeps = s.sweeps ∧
    (unreachableAt k w s).table = s.table ∧ (unreachableAt k w s).watches = s.watches ∧
    (unreachableAt k w s).requester = s.requester ∧ (unreachableAt k w s).roster = s.roster ∧
    (unreachableAt k w s).queries = s.queries ∧ (unreachableAt k w s).counters = s.counters ∧
    (unreachableAt k w s).draws = s.draws ∧ (unreachableAt k w s).pending = s.pending := by
  unfold unreachableAt; split <;> [(split <;> simp); simp]

@[simp] theorem unreachableNotice_frame (k : Nat) (s : State) :
    (unreachableNotice k s).station = s.station ∧ (unreachableNotice k s).time = s.time ∧
    (unreachableNotice k s).trigger = s.trigger ∧ (unreachableNotice k s).cadence = s.cadence ∧
    (unreachableNotice k s).converter = s.converter ∧ (unreachableNotice k s).sweeps = s.sweeps ∧
    (unreachableNotice k s).table = s.table ∧ (unreachableNotice k s).watches = s.watches ∧
    (unreachableNotice k s).requester = s.requester ∧ (unreachableNotice k s).roster = s.roster ∧
    (unreachableNotice k s).queries = s.queries ∧ (unreachableNotice k s).counters = s.counters ∧
    (unreachableNotice k s).draws = s.draws ∧ (unreachableNotice k s).pending = s.pending := by
  unfold unreachableNotice
  generalize watchIndices s = l
  induction l generalizing s with
  | nil => simp
  | cons k l ih => simp [ih]

@[simp] theorem reachableAt_frame (k w : Nat) (s : State) :
    (reachableAt k w s).station = s.station ∧ (reachableAt k w s).time = s.time ∧ (reachableAt k w s).trigger = s.trigger ∧
    (reachableAt k w s).cadence = s.cadence ∧ (reachableAt k w s).converter = s.converter ∧
    (reachableAt k w s).sweeps = s.sweeps ∧ (reachableAt k w s).table = s.table ∧ (reachableAt k w s).watches = s.watches ∧
    (reachableAt k w s).requester = s.requester ∧ (reachableAt k w s).roster = s.roster ∧
    (reachableAt k w s).queries = s.queries ∧ (reachableAt k w s).counters = s.counters ∧ (reachableAt k w s).draws = s.draws ∧
    (reachableAt k w s).pending = s.pending := by
  unfold reachableAt; split <;> [(split <;> simp); simp]

@[simp] theorem reachableNotice_frame (k : Nat) (s : State) :
    (reachableNotice k s).station = s.station ∧ (reachableNotice k s).time = s.time ∧
    (reachableNotice k s).trigger = s.trigger ∧ (reachableNotice k s).cadence = s.cadence ∧
    (reachableNotice k s).converter = s.converter ∧ (reachableNotice k s).sweeps = s.sweeps ∧
    (reachableNotice k s).table = s.table ∧ (reachableNotice k s).watches = s.watches ∧
    (reachableNotice k s).requester = s.requester ∧ (reachableNotice k s).roster = s.roster ∧
    (reachableNotice k s).queries = s.queries ∧ (reachableNotice k s).counters = s.counters ∧
    (reachableNotice k s).draws = s.draws ∧ (reachableNotice k s).pending = s.pending := by
  unfold reachableNotice
  generalize watchIndices s = l
  induction l generalizing s with
  | nil => simp
  | cons k l ih => simp [ih]

/-! Value table (Machine/ValueTable.lean) -/

@[simp] theorem makeRoom_frame (batch : List Nat) (k : Nat) (s : State) :
    (makeRoom batch k s).station = s.station ∧ (makeRoom batch k s).time = s.time ∧ (makeRoom batch k s).trigger = s.trigger ∧
    (makeRoom batch k s).cadence = s.cadence ∧ (makeRoom batch k s).converter = s.converter ∧
    (makeRoom batch k s).sweeps = s.sweeps ∧ (makeRoom batch k s).watches = s.watches ∧ (makeRoom batch k s).alerts = s.alerts ∧
    (makeRoom batch k s).requester = s.requester ∧ (makeRoom batch k s).roster = s.roster ∧ (makeRoom batch k s).bus = s.bus ∧
    (makeRoom batch k s).queries = s.queries ∧ (makeRoom batch k s).draws = s.draws ∧
    (makeRoom batch k s).pending = s.pending := by
  unfold makeRoom; split <;> [(split <;> simp); simp]

@[simp] theorem applyUpdate_frame (batch : List Nat) (station : Addr) (cause : Cause) (s : State) (it : Item) :
    (applyUpdate batch station cause s it).station = s.station ∧ (applyUpdate batch station cause s it).time = s.time ∧
    (applyUpdate batch station cause s it).trigger = s.trigger ∧ (applyUpdate batch station cause s it).cadence = s.cadence ∧
    (applyUpdate batch station cause s it).converter = s.converter ∧ (applyUpdate batch station cause s it).sweeps = s.sweeps ∧
    (applyUpdate batch station cause s it).watches = s.watches ∧ (applyUpdate batch station cause s it).alerts = s.alerts ∧
    (applyUpdate batch station cause s it).requester = s.requester ∧ (applyUpdate batch station cause s it).roster = s.roster ∧
    (applyUpdate batch station cause s it).bus = s.bus ∧ (applyUpdate batch station cause s it).queries = s.queries ∧
    (applyUpdate batch station cause s it).draws = s.draws ∧ (applyUpdate batch station cause s it).pending = s.pending := by
  simp only [applyUpdate]; split <;> simp

/-- Every update of a batch. -/
@[simp] theorem applyUpdate_foldl_frame (batch : List Nat) (station : Addr) (cause : Cause) (l : List Item) (s : State) :
    (l.foldl (applyUpdate batch station cause) s).station = s.station ∧
    (l.foldl (applyUpdate batch station cause) s).time = s.time ∧
    (l.foldl (applyUpdate batch station cause) s).trigger = s.trigger ∧
    (l.foldl (applyUpdate batch station cause) s).cadence = s.cadence ∧
    (l.foldl (applyUpdate batch station cause) s).converter = s.converter ∧
    (l.foldl (applyUpdate batch station cause) s).sweeps = s.sweeps ∧
    (l.foldl (applyUpdate batch station cause) s).watches = s.watches ∧
    (l.foldl (applyUpdate batch station cause) s).alerts = s.alerts ∧
    (l.foldl (applyUpdate batch station cause) s).requester = s.requester ∧
    (l.foldl (applyUpdate batch station cause) s).roster = s.roster ∧
    (l.foldl (applyUpdate batch station cause) s).bus = s.bus ∧
    (l.foldl (applyUpdate batch station cause) s).queries = s.queries ∧
    (l.foldl (applyUpdate batch station cause) s).draws = s.draws ∧
    (l.foldl (applyUpdate batch station cause) s).pending = s.pending := by
  induction l generalizing s with
  | nil => simp
  | cons k l ih => simp [ih]

/-- Every reachability notice of a batch. -/
@[simp] theorem reachableNotice_foldl_frame (l : List Nat) (s : State) :
    (l.foldl (fun s k => reachableNotice k s) s).station = s.station ∧
    (l.foldl (fun s k => reachableNotice k s) s).time = s.time ∧
    (l.foldl (fun s k => reachableNotice k s) s).trigger = s.trigger ∧
    (l.foldl (fun s k => reachableNotice k s) s).cadence = s.cadence ∧
    (l.foldl (fun s k => reachableNotice k s) s).converter = s.converter ∧
    (l.foldl (fun s k => reachableNotice k s) s).sweeps = s.sweeps ∧
    (l.foldl (fun s k => reachableNotice k s) s).table = s.table ∧
    (l.foldl (fun s k => reachableNotice k s) s).watches = s.watches ∧
    (l.foldl (fun s k => reachableNotice k s) s).requester = s.requester ∧
    (l.foldl (fun s k => reachableNotice k s) s).roster = s.roster ∧
    (l.foldl (fun s k => reachableNotice k s) s).queries = s.queries ∧
    (l.foldl (fun s k => reachableNotice k s) s).counters = s.counters ∧
    (l.foldl (fun s k => reachableNotice k s) s).draws = s.draws ∧
    (l.foldl (fun s k => reachableNotice k s) s).pending = s.pending := by
  induction l generalizing s with
  | nil => simp
  | cons k l ih => simp [ih]

@[simp] theorem applyBatch_frame (station : Addr) (cause : Cause) (items : List Item) (s : State) :
    (applyBatch station cause items s).station = s.station ∧ (applyBatch station cause items s).time = s.time ∧
    (applyBatch station cause items s).trigger = s.trigger ∧ (applyBatch station cause items s).cadence = s.cadence ∧
    (applyBatch station cause items s).converter = s.converter ∧ (applyBatch station cause items s).sweeps = s.sweeps ∧
    (applyBatch station cause items s).requester = s.requester ∧ (applyBatch station cause items s).roster = s.roster ∧
    (applyBatch station cause items s).queries = s.queries ∧ (applyBatch station cause items s).draws = s.draws ∧
    (applyBatch station cause items s).pending = s.pending := by
  simp [applyBatch]

@[simp] theorem markUnreachable_frame (s : State) (k : Nat) :
    (markUnreachable s k).station = s.station ∧ (markUnreachable s k).time = s.time ∧
    (markUnreachable s k).trigger = s.trigger ∧ (markUnreachable s k).cadence = s.cadence ∧
    (markUnreachable s k).converter = s.converter ∧ (markUnreachable s k).sweeps = s.sweeps ∧
    (markUnreachable s k).watches = s.watches ∧ (markUnreachable s k).requester = s.requester ∧
    (markUnreachable s k).roster = s.roster ∧ (markUnreachable s k).queries = s.queries ∧
    (markUnreachable s k).counters = s.counters ∧ (markUnreachable s k).draws = s.draws ∧
    (markUnreachable s k).pending = s.pending := by
  unfold markUnreachable; split <;> [(split <;> simp); simp]

@[simp] theorem staleAll_frame (station : Nat) (s : State) :
    (staleAll station s).station = s.station ∧ (staleAll station s).time = s.time ∧ (staleAll station s).trigger = s.trigger ∧
    (staleAll station s).cadence = s.cadence ∧ (staleAll station s).converter = s.converter ∧
    (staleAll station s).sweeps = s.sweeps ∧ (staleAll station s).watches = s.watches ∧ (staleAll station s).alerts = s.alerts ∧
    (staleAll station s).requester = s.requester ∧ (staleAll station s).roster = s.roster ∧ (staleAll station s).bus = s.bus ∧
    (staleAll station s).queries = s.queries ∧ (staleAll station s).counters = s.counters ∧
    (staleAll station s).draws = s.draws ∧ (staleAll station s).pending = s.pending := by
  simp [staleAll]

/-! Requester (Machine/Requester.lean) -/

/-- Every mark of a give-up. -/
@[simp] theorem markUnreachable_foldl_frame (l : List Nat) (s : State) :
    (l.foldl markUnreachable s).station = s.station ∧ (l.foldl markUnreachable s).time = s.time ∧
    (l.foldl markUnreachable s).trigger = s.trigger ∧ (l.foldl markUnreachable s).cadence = s.cadence ∧
    (l.foldl markUnreachable s).converter = s.converter ∧ (l.foldl markUnreachable s).sweeps = s.sweeps ∧
    (l.foldl markUnreachable s).watches = s.watches ∧ (l.foldl markUnreachable s).requester = s.requester ∧
    (l.foldl markUnreachable s).roster = s.roster ∧ (l.foldl markUnreachable s).queries = s.queries ∧
    (l.foldl markUnreachable s).counters = s.counters ∧ (l.foldl markUnreachable s).draws = s.draws ∧
    (l.foldl markUnreachable s).pending = s.pending := by
  induction l generalizing s with
  | nil => simp
  | cons k l ih => simp [ih]

@[simp] theorem giveUp_frame (station : Nat) (channels : ChannelSet) (s : State) :
    (giveUp station channels s).station = s.station ∧ (giveUp station channels s).time = s.time ∧
    (giveUp station channels s).trigger = s.trigger ∧ (giveUp station channels s).cadence = s.cadence ∧
    (giveUp station channels s).converter = s.converter ∧ (giveUp station channels s).sweeps = s.sweeps ∧
    (giveUp station channels s).watches = s.watches ∧ (giveUp station channels s).roster = s.roster ∧
    (giveUp station channels s).queries = s.queries ∧ (giveUp station channels s).counters = s.counters ∧
    (giveUp station channels s).draws = s.draws ∧ (giveUp station channels s).pending = s.pending := by
  simp [giveUp]

@[simp] theorem wantKey_frame (s : State) (k : Nat) :
    (wantKey s k).station = s.station ∧ (wantKey s k).time = s.time ∧ (wantKey s k).trigger = s.trigger ∧
    (wantKey s k).cadence = s.cadence ∧ (wantKey s k).converter = s.converter ∧ (wantKey s k).sweeps = s.sweeps ∧
    (wantKey s k).table = s.table ∧ (wantKey s k).watches = s.watches ∧ (wantKey s k).alerts = s.alerts ∧
    (wantKey s k).roster = s.roster ∧ (wantKey s k).bus = s.bus ∧ (wantKey s k).queries = s.queries ∧
    (wantKey s k).counters = s.counters ∧ (wantKey s k).draws = s.draws ∧ (wantKey s k).pending = s.pending := by
  unfold wantKey; split <;> simp

@[simp] theorem takeKey_frame (s : State) (k : Nat) :
    (takeKey s k).station = s.station ∧ (takeKey s k).time = s.time ∧ (takeKey s k).trigger = s.trigger ∧
    (takeKey s k).cadence = s.cadence ∧ (takeKey s k).converter = s.converter ∧ (takeKey s k).sweeps = s.sweeps ∧
    (takeKey s k).watches = s.watches ∧ (takeKey s k).roster = s.roster ∧ (takeKey s k).queries = s.queries ∧
    (takeKey s k).counters = s.counters ∧ (takeKey s k).draws = s.draws ∧ (takeKey s k).pending = s.pending := by
  unfold takeKey; split <;> simp

@[simp] theorem staleNotice_frame (s : State) (k : Nat) :
    (staleNotice s k).station = s.station ∧ (staleNotice s k).time = s.time ∧ (staleNotice s k).trigger = s.trigger ∧
    (staleNotice s k).cadence = s.cadence ∧ (staleNotice s k).converter = s.converter ∧ (staleNotice s k).sweeps = s.sweeps ∧
    (staleNotice s k).watches = s.watches ∧ (staleNotice s k).roster = s.roster ∧ (staleNotice s k).queries = s.queries ∧
    (staleNotice s k).counters = s.counters ∧ (staleNotice s k).draws = s.draws ∧ (staleNotice s k).pending = s.pending := by
  unfold staleNotice; split <;> simp

@[simp] theorem staleNoticeBeforeLoss_frame (s : State) (k : Nat) :
    (staleNoticeBeforeLoss s k).station = s.station ∧ (staleNoticeBeforeLoss s k).time = s.time ∧
    (staleNoticeBeforeLoss s k).trigger = s.trigger ∧ (staleNoticeBeforeLoss s k).cadence = s.cadence ∧
    (staleNoticeBeforeLoss s k).converter = s.converter ∧ (staleNoticeBeforeLoss s k).sweeps = s.sweeps ∧
    (staleNoticeBeforeLoss s k).table = s.table ∧ (staleNoticeBeforeLoss s k).watches = s.watches ∧
    (staleNoticeBeforeLoss s k).alerts = s.alerts ∧ (staleNoticeBeforeLoss s k).roster = s.roster ∧
    (staleNoticeBeforeLoss s k).bus = s.bus ∧ (staleNoticeBeforeLoss s k).queries = s.queries ∧
    (staleNoticeBeforeLoss s k).counters = s.counters ∧ (staleNoticeBeforeLoss s k).draws = s.draws ∧
    (staleNoticeBeforeLoss s k).pending = s.pending := by
  unfold staleNoticeBeforeLoss; split <;> simp

@[simp] theorem issueOne_frame (s : State) :
    (issueOne s).station = s.station ∧ (issueOne s).time = s.time ∧ (issueOne s).trigger = s.trigger ∧
    (issueOne s).cadence = s.cadence ∧ (issueOne s).converter = s.converter ∧ (issueOne s).sweeps = s.sweeps ∧
    (issueOne s).table = s.table ∧ (issueOne s).watches = s.watches ∧ (issueOne s).alerts = s.alerts ∧
    (issueOne s).roster = s.roster ∧ (issueOne s).bus = s.bus ∧ (issueOne s).queries = s.queries ∧
    (issueOne s).counters = s.counters ∧ (issueOne s).draws = s.draws ∧ (issueOne s).pending = s.pending := by
  unfold issueOne; split <;> [(split <;> simp); simp]

@[simp] theorem sendDue_frame (s : State) :
    (sendDue s).station = s.station ∧ (sendDue s).time = s.time ∧ (sendDue s).trigger = s.trigger ∧
    (sendDue s).cadence = s.cadence ∧ (sendDue s).converter = s.converter ∧ (sendDue s).sweeps = s.sweeps ∧
    (sendDue s).table = s.table ∧ (sendDue s).watches = s.watches ∧ (sendDue s).alerts = s.alerts ∧
    (sendDue s).roster = s.roster ∧ (sendDue s).queries = s.queries ∧ (sendDue s).counters = s.counters ∧
    (sendDue s).draws = s.draws ∧ (sendDue s).pending = s.pending := by
  unfold sendDue; split <;> [(split <;> simp); simp]

@[simp] theorem pump_frame (s : State) :
    (pump s).station = s.station ∧ (pump s).time = s.time ∧ (pump s).trigger = s.trigger ∧ (pump s).cadence = s.cadence ∧
    (pump s).converter = s.converter ∧ (pump s).sweeps = s.sweeps ∧ (pump s).table = s.table ∧ (pump s).watches = s.watches ∧
    (pump s).alerts = s.alerts ∧ (pump s).roster = s.roster ∧ (pump s).queries = s.queries ∧ (pump s).counters = s.counters ∧
    (pump s).draws = s.draws ∧ (pump s).pending = s.pending := by
  simp [pump]

@[simp] theorem removeEntry_frame (tag : Tag) (s : State) :
    (removeEntry tag s).station = s.station ∧ (removeEntry tag s).time = s.time ∧ (removeEntry tag s).trigger = s.trigger ∧
    (removeEntry tag s).cadence = s.cadence ∧ (removeEntry tag s).converter = s.converter ∧
    (removeEntry tag s).sweeps = s.sweeps ∧ (removeEntry tag s).table = s.table ∧ (removeEntry tag s).watches = s.watches ∧
    (removeEntry tag s).alerts = s.alerts ∧ (removeEntry tag s).roster = s.roster ∧ (removeEntry tag s).bus = s.bus ∧
    (removeEntry tag s).queries = s.queries ∧ (removeEntry tag s).counters = s.counters ∧ (removeEntry tag s).draws = s.draws ∧
    (removeEntry tag s).pending = s.pending := by
  simp [removeEntry]

@[simp] theorem giveUpEntry_frame (e : PendingEntry) (s : State) :
    (giveUpEntry e s).station = s.station ∧ (giveUpEntry e s).time = s.time ∧ (giveUpEntry e s).trigger = s.trigger ∧
    (giveUpEntry e s).cadence = s.cadence ∧ (giveUpEntry e s).converter = s.converter ∧ (giveUpEntry e s).sweeps = s.sweeps ∧
    (giveUpEntry e s).watches = s.watches ∧ (giveUpEntry e s).roster = s.roster ∧ (giveUpEntry e s).queries = s.queries ∧
    (giveUpEntry e s).counters = s.counters ∧ (giveUpEntry e s).draws = s.draws ∧ (giveUpEntry e s).pending = s.pending := by
  simp [giveUpEntry]

@[simp] theorem nextAttempt_frame (e : PendingEntry) (s : State) :
    (nextAttempt e s).station = s.station ∧ (nextAttempt e s).time = s.time ∧ (nextAttempt e s).trigger = s.trigger ∧
    (nextAttempt e s).cadence = s.cadence ∧ (nextAttempt e s).converter = s.converter ∧ (nextAttempt e s).sweeps = s.sweeps ∧
    (nextAttempt e s).watches = s.watches ∧ (nextAttempt e s).roster = s.roster ∧ (nextAttempt e s).queries = s.queries ∧
    (nextAttempt e s).counters = s.counters ∧ (nextAttempt e s).draws = s.draws ∧ (nextAttempt e s).pending = s.pending := by
  simp only [nextAttempt]; split <;> simp

@[simp] theorem setEntry_frame (tag : Tag) (f : PendingEntry → PendingEntry) (s : State) :
    (setEntry tag f s).station = s.station ∧ (setEntry tag f s).time = s.time ∧ (setEntry tag f s).trigger = s.trigger ∧
    (setEntry tag f s).cadence = s.cadence ∧ (setEntry tag f s).converter = s.converter ∧ (setEntry tag f s).sweeps = s.sweeps ∧
    (setEntry tag f s).table = s.table ∧ (setEntry tag f s).watches = s.watches ∧ (setEntry tag f s).alerts = s.alerts ∧
    (setEntry tag f s).roster = s.roster ∧ (setEntry tag f s).bus = s.bus ∧ (setEntry tag f s).queries = s.queries ∧
    (setEntry tag f s).counters = s.counters ∧ (setEntry tag f s).draws = s.draws ∧ (setEntry tag f s).pending = s.pending := by
  simp [setEntry]

@[simp] theorem attemptWhen_frame (tag : Tag) (stage : Stage) (s : State) :
    (attemptWhen tag stage s).station = s.station ∧ (attemptWhen tag stage s).time = s.time ∧
    (attemptWhen tag stage s).trigger = s.trigger ∧ (attemptWhen tag stage s).cadence = s.cadence ∧
    (attemptWhen tag stage s).converter = s.converter ∧ (attemptWhen tag stage s).sweeps = s.sweeps ∧
    (attemptWhen tag stage s).watches = s.watches ∧ (attemptWhen tag stage s).roster = s.roster ∧
    (attemptWhen tag stage s).queries = s.queries ∧ (attemptWhen tag stage s).counters = s.counters ∧
    (attemptWhen tag stage s).draws = s.draws ∧ (attemptWhen tag stage s).pending = s.pending := by
  unfold attemptWhen; split <;> simp

@[simp] theorem measureEnded_frame (tag : Tag) (completed : Bool) (s : State) :
    (measureEnded tag completed s).station = s.station ∧ (measureEnded tag completed s).time = s.time ∧
    (measureEnded tag completed s).trigger = s.trigger ∧ (measureEnded tag completed s).cadence = s.cadence ∧
    (measureEnded tag completed s).converter = s.converter ∧ (measureEnded tag completed s).sweeps = s.sweeps ∧
    (measureEnded tag completed s).watches = s.watches ∧ (measureEnded tag completed s).roster = s.roster ∧
    (measureEnded tag completed s).queries = s.queries ∧ (measureEnded tag completed s).counters = s.counters ∧
    (measureEnded tag completed s).draws = s.draws ∧ (measureEnded tag completed s).pending = s.pending := by
  unfold measureEnded; split <;> [(split <;> simp); simp]

@[simp] theorem takeRefusal_frame (e : PendingEntry) (reason : BitVec 3) (s : State) :
    (takeRefusal e reason s).station = s.station ∧ (takeRefusal e reason s).time = s.time ∧
    (takeRefusal e reason s).trigger = s.trigger ∧ (takeRefusal e reason s).cadence = s.cadence ∧
    (takeRefusal e reason s).converter = s.converter ∧ (takeRefusal e reason s).sweeps = s.sweeps ∧
    (takeRefusal e reason s).watches = s.watches ∧ (takeRefusal e reason s).roster = s.roster ∧
    (takeRefusal e reason s).queries = s.queries ∧ (takeRefusal e reason s).counters = s.counters ∧
    (takeRefusal e reason s).draws = s.draws ∧ (takeRefusal e reason s).pending = s.pending := by
  unfold takeRefusal; split <;> first | (split <;> simp) | simp

@[simp] theorem takeRefuse_frame (src : Addr) (kind : RefusedKind) (reason : BitVec 3) (tag : Tag) (s : State) :
    (takeRefuse src kind reason tag s).station = s.station ∧ (takeRefuse src kind reason tag s).time = s.time ∧
    (takeRefuse src kind reason tag s).trigger = s.trigger ∧ (takeRefuse src kind reason tag s).cadence = s.cadence ∧
    (takeRefuse src kind reason tag s).converter = s.converter ∧ (takeRefuse src kind reason tag s).sweeps = s.sweeps ∧
    (takeRefuse src kind reason tag s).watches = s.watches ∧ (takeRefuse src kind reason tag s).roster = s.roster ∧
    (takeRefuse src kind reason tag s).queries = s.queries ∧ (takeRefuse src kind reason tag s).counters = s.counters ∧
    (takeRefuse src kind reason tag s).draws = s.draws ∧ (takeRefuse src kind reason tag s).pending = s.pending := by
  unfold takeRefuse; split <;> [simp; (split <;> simp)]

@[simp] theorem answered_frame (src : Addr) (cause : Cause) (s : State) :
    (answered src cause s).station = s.station ∧ (answered src cause s).time = s.time ∧
    (answered src cause s).trigger = s.trigger ∧ (answered src cause s).cadence = s.cadence ∧
    (answered src cause s).converter = s.converter ∧ (answered src cause s).sweeps = s.sweeps ∧
    (answered src cause s).table = s.table ∧ (answered src cause s).watches = s.watches ∧
    (answered src cause s).alerts = s.alerts ∧ (answered src cause s).roster = s.roster ∧ (answered src cause s).bus = s.bus ∧
    (answered src cause s).queries = s.queries ∧ (answered src cause s).counters = s.counters ∧
    (answered src cause s).draws = s.draws ∧ (answered src cause s).pending = s.pending := by
  unfold answered; split <;> first | (split <;> simp) | simp

@[simp] theorem requesterResult_frame (src : Addr) (cause : Cause) (items : List Item) (s : State) :
    (requesterResult src cause items s).station = s.station ∧ (requesterResult src cause items s).time = s.time ∧
    (requesterResult src cause items s).trigger = s.trigger ∧ (requesterResult src cause items s).cadence = s.cadence ∧
    (requesterResult src cause items s).converter = s.converter ∧ (requesterResult src cause items s).sweeps = s.sweeps ∧
    (requesterResult src cause items s).table = s.table ∧ (requesterResult src cause items s).watches = s.watches ∧
    (requesterResult src cause items s).alerts = s.alerts ∧ (requesterResult src cause items s).roster = s.roster ∧
    (requesterResult src cause items s).queries = s.queries ∧ (requesterResult src cause items s).counters = s.counters ∧
    (requesterResult src cause items s).draws = s.draws ∧ (requesterResult src cause items s).pending = s.pending := by
  simp [requesterResult]

/-- Several notices. -/
@[simp] theorem takeKey_foldl_frame (l : List Nat) (s : State) :
    (l.foldl takeKey s).station = s.station ∧ (l.foldl takeKey s).time = s.time ∧ (l.foldl takeKey s).trigger = s.trigger ∧
    (l.foldl takeKey s).cadence = s.cadence ∧ (l.foldl takeKey s).converter = s.converter ∧
    (l.foldl takeKey s).sweeps = s.sweeps ∧ (l.foldl takeKey s).watches = s.watches ∧ (l.foldl takeKey s).roster = s.roster ∧
    (l.foldl takeKey s).queries = s.queries ∧ (l.foldl takeKey s).counters = s.counters ∧ (l.foldl takeKey s).draws = s.draws ∧
    (l.foldl takeKey s).pending = s.pending := by
  induction l generalizing s with
  | nil => simp
  | cons k l ih => simp [ih]

/-- Several notices, each with its look for candidates. -/
@[simp] theorem takeKey_pump_foldl_frame (l : List Nat) (s : State) :
    (l.foldl (fun s k => pump (takeKey s k)) s).station = s.station ∧
    (l.foldl (fun s k => pump (takeKey s k)) s).time = s.time ∧
    (l.foldl (fun s k => pump (takeKey s k)) s).trigger = s.trigger ∧
    (l.foldl (fun s k => pump (takeKey s k)) s).cadence = s.cadence ∧
    (l.foldl (fun s k => pump (takeKey s k)) s).converter = s.converter ∧
    (l.foldl (fun s k => pump (takeKey s k)) s).sweeps = s.sweeps ∧
    (l.foldl (fun s k => pump (takeKey s k)) s).watches = s.watches ∧
    (l.foldl (fun s k => pump (takeKey s k)) s).roster = s.roster ∧
    (l.foldl (fun s k => pump (takeKey s k)) s).queries = s.queries ∧
    (l.foldl (fun s k => pump (takeKey s k)) s).counters = s.counters ∧
    (l.foldl (fun s k => pump (takeKey s k)) s).draws = s.draws ∧
    (l.foldl (fun s k => pump (takeKey s k)) s).pending = s.pending := by
  induction l generalizing s with
  | nil => simp
  | cons k l ih => simp [ih]

/-- Several notices. -/
@[simp] theorem staleNotice_foldl_frame (l : List Nat) (s : State) :
    (l.foldl staleNotice s).station = s.station ∧ (l.foldl staleNotice s).time = s.time ∧
    (l.foldl staleNotice s).trigger = s.trigger ∧ (l.foldl staleNotice s).cadence = s.cadence ∧
    (l.foldl staleNotice s).converter = s.converter ∧ (l.foldl staleNotice s).sweeps = s.sweeps ∧
    (l.foldl staleNotice s).watches = s.watches ∧ (l.foldl staleNotice s).roster = s.roster ∧
    (l.foldl staleNotice s).queries = s.queries ∧ (l.foldl staleNotice s).counters = s.counters ∧
    (l.foldl staleNotice s).draws = s.draws ∧ (l.foldl staleNotice s).pending = s.pending := by
  induction l generalizing s with
  | nil => simp
  | cons k l ih => simp [ih]

/-- Several notices. -/
@[simp] theorem staleNoticeBeforeLoss_foldl_frame (l : List Nat) (s : State) :
    (l.foldl staleNoticeBeforeLoss s).station = s.station ∧ (l.foldl staleNoticeBeforeLoss s).time = s.time ∧
    (l.foldl staleNoticeBeforeLoss s).trigger = s.trigger ∧ (l.foldl staleNoticeBeforeLoss s).cadence = s.cadence ∧
    (l.foldl staleNoticeBeforeLoss s).converter = s.converter ∧ (l.foldl staleNoticeBeforeLoss s).sweeps = s.sweeps ∧
    (l.foldl staleNoticeBeforeLoss s).table = s.table ∧ (l.foldl staleNoticeBeforeLoss s).watches = s.watches ∧
    (l.foldl staleNoticeBeforeLoss s).alerts = s.alerts ∧ (l.foldl staleNoticeBeforeLoss s).roster = s.roster ∧
    (l.foldl staleNoticeBeforeLoss s).bus = s.bus ∧ (l.foldl staleNoticeBeforeLoss s).queries = s.queries ∧
    (l.foldl staleNoticeBeforeLoss s).counters = s.counters ∧ (l.foldl staleNoticeBeforeLoss s).draws = s.draws ∧
    (l.foldl staleNoticeBeforeLoss s).pending = s.pending := by
  induction l generalizing s with
  | nil => simp
  | cons k l ih => simp [ih]

/-- Several notices, each with its look for candidates. -/
@[simp] theorem staleNotice_pump_foldl_frame (l : List Nat) (s : State) :
    (l.foldl (fun s k => pump (staleNotice s k)) s).station = s.station ∧
    (l.foldl (fun s k => pump (staleNotice s k)) s).time = s.time ∧
    (l.foldl (fun s k => pump (staleNotice s k)) s).trigger = s.trigger ∧
    (l.foldl (fun s k => pump (staleNotice s k)) s).cadence = s.cadence ∧
    (l.foldl (fun s k => pump (staleNotice s k)) s).converter = s.converter ∧
    (l.foldl (fun s k => pump (staleNotice s k)) s).sweeps = s.sweeps ∧
    (l.foldl (fun s k => pump (staleNotice s k)) s).watches = s.watches ∧
    (l.foldl (fun s k => pump (staleNotice s k)) s).roster = s.roster ∧
    (l.foldl (fun s k => pump (staleNotice s k)) s).queries = s.queries ∧
    (l.foldl (fun s k => pump (staleNotice s k)) s).counters = s.counters ∧
    (l.foldl (fun s k => pump (staleNotice s k)) s).draws = s.draws ∧
    (l.foldl (fun s k => pump (staleNotice s k)) s).pending = s.pending := by
  induction l generalizing s with
  | nil => simp
  | cons k l ih => simp [ih]

/-- The notices of one event, in either order of the looks for candidates. -/
@[simp] theorem takeNotices_takeKey_frame (l : List Nat) (s : State) :
    (takeNotices takeKey l s).station = s.station ∧ (takeNotices takeKey l s).time = s.time ∧
    (takeNotices takeKey l s).trigger = s.trigger ∧ (takeNotices takeKey l s).cadence = s.cadence ∧
    (takeNotices takeKey l s).converter = s.converter ∧ (takeNotices takeKey l s).sweeps = s.sweeps ∧
    (takeNotices takeKey l s).watches = s.watches ∧ (takeNotices takeKey l s).roster = s.roster ∧
    (takeNotices takeKey l s).queries = s.queries ∧ (takeNotices takeKey l s).counters = s.counters ∧
    (takeNotices takeKey l s).pending = s.pending := by
  simp only [takeNotices]
  and_intros <;> exact (settle_field _ (by simp)).trans (by simp)

/-- The notices of one event, in either order of the looks for candidates. -/
@[simp] theorem takeNotices_staleNotice_frame (l : List Nat) (s : State) :
    (takeNotices staleNotice l s).station = s.station ∧ (takeNotices staleNotice l s).time = s.time ∧
    (takeNotices staleNotice l s).trigger = s.trigger ∧ (takeNotices staleNotice l s).cadence = s.cadence ∧
    (takeNotices staleNotice l s).converter = s.converter ∧ (takeNotices staleNotice l s).sweeps = s.sweeps ∧
    (takeNotices staleNotice l s).watches = s.watches ∧ (takeNotices staleNotice l s).roster = s.roster ∧
    (takeNotices staleNotice l s).queries = s.queries ∧ (takeNotices staleNotice l s).counters = s.counters ∧
    (takeNotices staleNotice l s).pending = s.pending := by
  simp only [takeNotices]
  and_intros <;> exact (settle_field _ (by simp)).trans (by simp)


@[simp] theorem presentAfterLost_frame (station : Nat) (s : State) :
    (presentAfterLost station s).station = s.station ∧ (presentAfterLost station s).time = s.time ∧
    (presentAfterLost station s).trigger = s.trigger ∧ (presentAfterLost station s).cadence = s.cadence ∧
    (presentAfterLost station s).converter = s.converter ∧ (presentAfterLost station s).sweeps = s.sweeps ∧
    (presentAfterLost station s).watches = s.watches ∧ (presentAfterLost station s).roster = s.roster ∧
    (presentAfterLost station s).queries = s.queries ∧ (presentAfterLost station s).counters = s.counters ∧
    (presentAfterLost station s).pending = s.pending := by
  simp [presentAfterLost]

@[simp] theorem announceStale_frame (s : State) :
    (announceStale s).station = s.station ∧ (announceStale s).time = s.time ∧ (announceStale s).trigger = s.trigger ∧
    (announceStale s).cadence = s.cadence ∧ (announceStale s).converter = s.converter ∧ (announceStale s).sweeps = s.sweeps ∧
    (announceStale s).watches = s.watches ∧ (announceStale s).roster = s.roster ∧ (announceStale s).queries = s.queries ∧
    (announceStale s).counters = s.counters ∧ (announceStale s).pending = s.pending := by
  simp [announceStale]

@[simp] theorem requesterLost_frame (station : Nat) (s : State) :
    (requesterLost station s).station = s.station ∧ (requesterLost station s).time = s.time ∧
    (requesterLost station s).trigger = s.trigger ∧ (requesterLost station s).cadence = s.cadence ∧
    (requesterLost station s).converter = s.converter ∧ (requesterLost station s).sweeps = s.sweeps ∧
    (requesterLost station s).watches = s.watches ∧ (requesterLost station s).roster = s.roster ∧
    (requesterLost station s).queries = s.queries ∧ (requesterLost station s).counters = s.counters ∧
    (requesterLost station s).draws = s.draws ∧ (requesterLost station s).pending = s.pending := by
  unfold requesterLost; split <;> simp

@[simp] theorem requesterRestarted_frame (station : Nat) (s : State) :
    (requesterRestarted station s).station = s.station ∧ (requesterRestarted station s).time = s.time ∧
    (requesterRestarted station s).trigger = s.trigger ∧ (requesterRestarted station s).cadence = s.cadence ∧
    (requesterRestarted station s).converter = s.converter ∧ (requesterRestarted station s).sweeps = s.sweeps ∧
    (requesterRestarted station s).watches = s.watches ∧ (requesterRestarted station s).roster = s.roster ∧
    (requesterRestarted station s).queries = s.queries ∧ (requesterRestarted station s).counters = s.counters ∧
    (requesterRestarted station s).draws = s.draws ∧ (requesterRestarted station s).pending = s.pending := by
  unfold requesterRestarted; split <;> [(split <;> simp); simp]

@[simp] theorem emptyRequester_frame (s : State) :
    (emptyRequester s).station = s.station ∧ (emptyRequester s).time = s.time ∧ (emptyRequester s).trigger = s.trigger ∧
    (emptyRequester s).cadence = s.cadence ∧ (emptyRequester s).converter = s.converter ∧ (emptyRequester s).sweeps = s.sweeps ∧
    (emptyRequester s).table = s.table ∧ (emptyRequester s).watches = s.watches ∧ (emptyRequester s).alerts = s.alerts ∧
    (emptyRequester s).roster = s.roster ∧ (emptyRequester s).bus = s.bus ∧ (emptyRequester s).queries = s.queries ∧
    (emptyRequester s).counters = s.counters ∧ (emptyRequester s).draws = s.draws ∧ (emptyRequester s).pending = s.pending := by
  simp [emptyRequester]

/-- The value table's part of a loss that the requester has taken. -/
@[simp] theorem tableLost_frame (station : Nat) (s : State) :
    (tableLost staleNotice station s).station = s.station ∧ (tableLost staleNotice station s).time = s.time ∧
    (tableLost staleNotice station s).trigger = s.trigger ∧ (tableLost staleNotice station s).cadence = s.cadence ∧
    (tableLost staleNotice station s).converter = s.converter ∧ (tableLost staleNotice station s).sweeps = s.sweeps ∧
    (tableLost staleNotice station s).watches = s.watches ∧ (tableLost staleNotice station s).roster = s.roster ∧
    (tableLost staleNotice station s).queries = s.queries ∧ (tableLost staleNotice station s).counters = s.counters ∧
    (tableLost staleNotice station s).draws = s.draws ∧ (tableLost staleNotice station s).pending = s.pending := by
  simp only [tableLost]; split <;> simp

/-- The value table's part of a loss that the requester has not taken yet. -/
@[simp] theorem tableLost_beforeLoss_frame (station : Nat) (s : State) :
    (tableLost staleNoticeBeforeLoss station s).station = s.station ∧
    (tableLost staleNoticeBeforeLoss station s).time = s.time ∧
    (tableLost staleNoticeBeforeLoss station s).trigger = s.trigger ∧
    (tableLost staleNoticeBeforeLoss station s).cadence = s.cadence ∧
    (tableLost staleNoticeBeforeLoss station s).converter = s.converter ∧
    (tableLost staleNoticeBeforeLoss station s).sweeps = s.sweeps ∧
    (tableLost staleNoticeBeforeLoss station s).watches = s.watches ∧
    (tableLost staleNoticeBeforeLoss station s).roster = s.roster ∧
    (tableLost staleNoticeBeforeLoss station s).queries = s.queries ∧
    (tableLost staleNoticeBeforeLoss station s).counters = s.counters ∧
    (tableLost staleNoticeBeforeLoss station s).draws = s.draws ∧
    (tableLost staleNoticeBeforeLoss station s).pending = s.pending := by
  simp only [tableLost]; split <;> simp

@[simp] theorem freshnessExpiry_frame (k : Nat) (s : State) :
    (freshnessExpiry k s).station = s.station ∧ (freshnessExpiry k s).time = s.time ∧
    (freshnessExpiry k s).trigger = s.trigger ∧ (freshnessExpiry k s).cadence = s.cadence ∧
    (freshnessExpiry k s).converter = s.converter ∧ (freshnessExpiry k s).sweeps = s.sweeps ∧
    (freshnessExpiry k s).watches = s.watches ∧ (freshnessExpiry k s).roster = s.roster ∧
    (freshnessExpiry k s).queries = s.queries ∧ (freshnessExpiry k s).counters = s.counters ∧
    (freshnessExpiry k s).draws = s.draws ∧ (freshnessExpiry k s).pending = s.pending := by
  simp only [freshnessExpiry]; split <;> [(split <;> [(split <;> simp); simp]); simp]

@[simp] theorem holdOffExpiry_frame (k : Nat) (s : State) :
    (holdOffExpiry k s).station = s.station ∧ (holdOffExpiry k s).time = s.time ∧ (holdOffExpiry k s).trigger = s.trigger ∧
    (holdOffExpiry k s).cadence = s.cadence ∧ (holdOffExpiry k s).converter = s.converter ∧
    (holdOffExpiry k s).sweeps = s.sweeps ∧ (holdOffExpiry k s).watches = s.watches ∧ (holdOffExpiry k s).roster = s.roster ∧
    (holdOffExpiry k s).queries = s.queries ∧ (holdOffExpiry k s).counters = s.counters ∧ (holdOffExpiry k s).draws = s.draws ∧
    (holdOffExpiry k s).pending = s.pending := by
  unfold holdOffExpiry; split <;> simp

/-! Converter and refusal list (Machine/Converter.lean) -/

@[simp] theorem changeConverter_frame (f : Converter → Converter) (s : State) :
    (changeConverter f s).station = s.station ∧ (changeConverter f s).time = s.time ∧
    (changeConverter f s).trigger = s.trigger ∧ (changeConverter f s).cadence = s.cadence ∧
    (changeConverter f s).sweeps = s.sweeps ∧ (changeConverter f s).table = s.table ∧
    (changeConverter f s).watches = s.watches ∧ (changeConverter f s).alerts = s.alerts ∧
    (changeConverter f s).requester = s.requester ∧ (changeConverter f s).roster = s.roster ∧
    (changeConverter f s).bus = s.bus ∧ (changeConverter f s).queries = s.queries ∧
    (changeConverter f s).counters = s.counters ∧ (changeConverter f s).draws = s.draws ∧
    (changeConverter f s).pending = s.pending := by
  simp [changeConverter]

@[simp] theorem offerTrigger_frame (n : Count) (s : State) :
    (offerTrigger n s).station = s.station ∧ (offerTrigger n s).time = s.time ∧ (offerTrigger n s).trigger = s.trigger ∧
    (offerTrigger n s).cadence = s.cadence ∧ (offerTrigger n s).sweeps = s.sweeps ∧ (offerTrigger n s).table = s.table ∧
    (offerTrigger n s).watches = s.watches ∧ (offerTrigger n s).alerts = s.alerts ∧ (offerTrigger n s).requester = s.requester ∧
    (offerTrigger n s).roster = s.roster ∧ (offerTrigger n s).bus = s.bus ∧ (offerTrigger n s).queries = s.queries ∧
    (offerTrigger n s).draws = s.draws ∧ (offerTrigger n s).pending = s.pending := by
  unfold offerTrigger; split <;> [(split <;> simp); simp]

@[simp] theorem offerSweep_frame (n : Count) (s : State) :
    (offerSweep n s).station = s.station ∧ (offerSweep n s).time = s.time ∧ (offerSweep n s).trigger = s.trigger ∧
    (offerSweep n s).cadence = s.cadence ∧ (offerSweep n s).sweeps = s.sweeps ∧ (offerSweep n s).table = s.table ∧
    (offerSweep n s).watches = s.watches ∧ (offerSweep n s).alerts = s.alerts ∧ (offerSweep n s).requester = s.requester ∧
    (offerSweep n s).roster = s.roster ∧ (offerSweep n s).bus = s.bus ∧ (offerSweep n s).queries = s.queries ∧
    (offerSweep n s).draws = s.draws ∧ (offerSweep n s).pending = s.pending := by
  simp only [offerSweep]; split <;> simp

@[simp] theorem offerCadence_frame (n : Count) (s : State) :
    (offerCadence n s).station = s.station ∧ (offerCadence n s).time = s.time ∧ (offerCadence n s).trigger = s.trigger ∧
    (offerCadence n s).cadence = s.cadence ∧ (offerCadence n s).sweeps = s.sweeps ∧ (offerCadence n s).table = s.table ∧
    (offerCadence n s).watches = s.watches ∧ (offerCadence n s).alerts = s.alerts ∧ (offerCadence n s).requester = s.requester ∧
    (offerCadence n s).roster = s.roster ∧ (offerCadence n s).bus = s.bus ∧ (offerCadence n s).queries = s.queries ∧
    (offerCadence n s).draws = s.draws ∧ (offerCadence n s).pending = s.pending := by
  unfold offerCadence; split <;> [(split <;> simp); simp]

@[simp] theorem pumpRefusals_frame (s : State) :
    (pumpRefusals s).station = s.station ∧ (pumpRefusals s).time = s.time ∧ (pumpRefusals s).trigger = s.trigger ∧
    (pumpRefusals s).cadence = s.cadence ∧ (pumpRefusals s).converter = s.converter ∧ (pumpRefusals s).sweeps = s.sweeps ∧
    (pumpRefusals s).table = s.table ∧ (pumpRefusals s).watches = s.watches ∧ (pumpRefusals s).alerts = s.alerts ∧
    (pumpRefusals s).requester = s.requester ∧ (pumpRefusals s).roster = s.roster ∧ (pumpRefusals s).queries = s.queries ∧
    (pumpRefusals s).counters = s.counters ∧ (pumpRefusals s).draws = s.draws ∧ (pumpRefusals s).pending = s.pending := by
  unfold pumpRefusals; split <;> [(split <;> simp); simp]

@[simp] theorem refuse_frame (dst : Addr) (kind : RefusedKind) (tag : Tag) (reason : Reason) (s : State) :
    (refuse dst kind tag reason s).station = s.station ∧ (refuse dst kind tag reason s).time = s.time ∧
    (refuse dst kind tag reason s).trigger = s.trigger ∧ (refuse dst kind tag reason s).cadence = s.cadence ∧
    (refuse dst kind tag reason s).converter = s.converter ∧ (refuse dst kind tag reason s).sweeps = s.sweeps ∧
    (refuse dst kind tag reason s).table = s.table ∧ (refuse dst kind tag reason s).watches = s.watches ∧
    (refuse dst kind tag reason s).alerts = s.alerts ∧ (refuse dst kind tag reason s).requester = s.requester ∧
    (refuse dst kind tag reason s).roster = s.roster ∧ (refuse dst kind tag reason s).queries = s.queries ∧
    (refuse dst kind tag reason s).draws = s.draws ∧ (refuse dst kind tag reason s).pending = s.pending := by
  unfold refuse; split <;> simp

@[simp] theorem takeMeasure_frame (src : Addr) (tag : Tag) (samples : Byte) (channels : List Byte) (s : State) :
    (takeMeasure src tag samples channels s).station = s.station ∧ (takeMeasure src tag samples channels s).time = s.time ∧
    (takeMeasure src tag samples channels s).trigger = s.trigger ∧
    (takeMeasure src tag samples channels s).cadence = s.cadence ∧ (takeMeasure src tag samples channels s).sweeps = s.sweeps ∧
    (takeMeasure src tag samples channels s).table = s.table ∧ (takeMeasure src tag samples channels s).watches = s.watches ∧
    (takeMeasure src tag samples channels s).alerts = s.alerts ∧
    (takeMeasure src tag samples channels s).requester = s.requester ∧
    (takeMeasure src tag samples channels s).roster = s.roster ∧ (takeMeasure src tag samples channels s).queries = s.queries ∧
    (takeMeasure src tag samples channels s).draws = s.draws ∧
    (takeMeasure src tag samples channels s).pending = s.pending := by
  unfold takeMeasure; split <;> [(split <;> simp); simp]

@[simp] theorem releaseHold_frame (s : State) :
    (releaseHold s).station = s.station ∧ (releaseHold s).time = s.time ∧ (releaseHold s).trigger = s.trigger ∧
    (releaseHold s).cadence = s.cadence ∧ (releaseHold s).sweeps = s.sweeps ∧ (releaseHold s).table = s.table ∧
    (releaseHold s).watches = s.watches ∧ (releaseHold s).alerts = s.alerts ∧ (releaseHold s).requester = s.requester ∧
    (releaseHold s).roster = s.roster ∧ (releaseHold s).queries = s.queries ∧ (releaseHold s).counters = s.counters ∧
    (releaseHold s).draws = s.draws ∧ (releaseHold s).pending = s.pending := by
  unfold releaseHold; split <;> [(split <;> simp); simp]

@[simp] theorem purgeConverter_frame (s : State) :
    (purgeConverter s).station = s.station ∧ (purgeConverter s).time = s.time ∧ (purgeConverter s).trigger = s.trigger ∧
    (purgeConverter s).cadence = s.cadence ∧ (purgeConverter s).sweeps = s.sweeps ∧ (purgeConverter s).table = s.table ∧
    (purgeConverter s).watches = s.watches ∧ (purgeConverter s).alerts = s.alerts ∧ (purgeConverter s).requester = s.requester ∧
    (purgeConverter s).roster = s.roster ∧ (purgeConverter s).bus = s.bus ∧ (purgeConverter s).queries = s.queries ∧
    (purgeConverter s).counters = s.counters ∧ (purgeConverter s).draws = s.draws ∧ (purgeConverter s).pending = s.pending := by
  simp [purgeConverter]

/-! Sweep unit (Machine/Sweeps.lean) -/

@[simp] theorem closeTally_frame (t : Tally) (state : TallyState) (s : State) :
    (closeTally t state s).station = s.station ∧ (closeTally t state s).time = s.time ∧
    (closeTally t state s).trigger = s.trigger ∧ (closeTally t state s).cadence = s.cadence ∧
    (closeTally t state s).converter = s.converter ∧ (closeTally t state s).table = s.table ∧
    (closeTally t state s).requester = s.requester ∧ (closeTally t state s).roster = s.roster ∧
    (closeTally t state s).queries = s.queries ∧ (closeTally t state s).counters = s.counters ∧
    (closeTally t state s).draws = s.draws ∧ (closeTally t state s).pending = s.pending := by
  simp [closeTally]

@[simp] theorem openNew_frame (n : Count) (s : State) :
    (openNew n s).station = s.station ∧ (openNew n s).time = s.time ∧ (openNew n s).trigger = s.trigger ∧
    (openNew n s).cadence = s.cadence ∧ (openNew n s).converter = s.converter ∧ (openNew n s).table = s.table ∧
    (openNew n s).requester = s.requester ∧ (openNew n s).roster = s.roster ∧ (openNew n s).queries = s.queries ∧
    (openNew n s).counters = s.counters ∧ (openNew n s).draws = s.draws ∧ (openNew n s).pending = s.pending := by
  simp only [openNew]; split <;> simp

@[simp] theorem withdrawSweep_frame (s : State) :
    (withdrawSweep s).station = s.station ∧ (withdrawSweep s).time = s.time ∧ (withdrawSweep s).trigger = s.trigger ∧
    (withdrawSweep s).cadence = s.cadence ∧ (withdrawSweep s).converter = s.converter ∧ (withdrawSweep s).sweeps = s.sweeps ∧
    (withdrawSweep s).table = s.table ∧ (withdrawSweep s).watches = s.watches ∧ (withdrawSweep s).alerts = s.alerts ∧
    (withdrawSweep s).requester = s.requester ∧ (withdrawSweep s).roster = s.roster ∧ (withdrawSweep s).queries = s.queries ∧
    (withdrawSweep s).counters = s.counters ∧ (withdrawSweep s).draws = s.draws ∧ (withdrawSweep s).pending = s.pending := by
  simp [withdrawSweep]

@[simp] theorem noteAccepted_frame (n : Count) (s : State) :
    (noteAccepted n s).station = s.station ∧ (noteAccepted n s).time = s.time ∧ (noteAccepted n s).trigger = s.trigger ∧
    (noteAccepted n s).cadence = s.cadence ∧ (noteAccepted n s).converter = s.converter ∧ (noteAccepted n s).table = s.table ∧
    (noteAccepted n s).watches = s.watches ∧ (noteAccepted n s).alerts = s.alerts ∧ (noteAccepted n s).requester = s.requester ∧
    (noteAccepted n s).roster = s.roster ∧ (noteAccepted n s).bus = s.bus ∧ (noteAccepted n s).queries = s.queries ∧
    (noteAccepted n s).counters = s.counters ∧ (noteAccepted n s).draws = s.draws ∧ (noteAccepted n s).pending = s.pending := by
  simp [noteAccepted]

@[simp] theorem supersede_frame (s : State) :
    (supersede s).station = s.station ∧ (supersede s).time = s.time ∧ (supersede s).trigger = s.trigger ∧
    (supersede s).cadence = s.cadence ∧ (supersede s).converter = s.converter ∧ (supersede s).table = s.table ∧
    (supersede s).requester = s.requester ∧ (supersede s).roster = s.roster ∧ (supersede s).queries = s.queries ∧
    (supersede s).counters = s.counters ∧ (supersede s).draws = s.draws ∧ (supersede s).pending = s.pending := by
  unfold supersede; split <;> simp

@[simp] theorem offerOwnSweep_frame (n : Count) (s : State) :
    (offerOwnSweep n s).station = s.station ∧ (offerOwnSweep n s).time = s.time ∧ (offerOwnSweep n s).trigger = s.trigger ∧
    (offerOwnSweep n s).cadence = s.cadence ∧ (offerOwnSweep n s).sweeps = s.sweeps ∧ (offerOwnSweep n s).table = s.table ∧
    (offerOwnSweep n s).watches = s.watches ∧ (offerOwnSweep n s).alerts = s.alerts ∧
    (offerOwnSweep n s).requester = s.requester ∧ (offerOwnSweep n s).roster = s.roster ∧ (offerOwnSweep n s).bus = s.bus ∧
    (offerOwnSweep n s).queries = s.queries ∧ (offerOwnSweep n s).draws = s.draws ∧
    (offerOwnSweep n s).pending = s.pending := by
  unfold offerOwnSweep; split <;> simp

@[simp] theorem acceptSweep_frame (n : Count) (s : State) :
    (acceptSweep n s).station = s.station ∧ (acceptSweep n s).time = s.time ∧ (acceptSweep n s).trigger = s.trigger ∧
    (acceptSweep n s).cadence = s.cadence ∧ (acceptSweep n s).table = s.table ∧ (acceptSweep n s).requester = s.requester ∧
    (acceptSweep n s).roster = s.roster ∧ (acceptSweep n s).queries = s.queries ∧ (acceptSweep n s).draws = s.draws ∧
    (acceptSweep n s).pending = s.pending := by
  simp [acceptSweep]

@[simp] theorem takeSweep_frame (n : Count) (s : State) :
    (takeSweep n s).station = s.station ∧ (takeSweep n s).time = s.time ∧ (takeSweep n s).trigger = s.trigger ∧
    (takeSweep n s).cadence = s.cadence ∧ (takeSweep n s).table = s.table ∧ (takeSweep n s).requester = s.requester ∧
    (takeSweep n s).roster = s.roster ∧ (takeSweep n s).queries = s.queries ∧ (takeSweep n s).draws = s.draws ∧
    (takeSweep n s).pending = s.pending := by
  unfold takeSweep; split <;> simp

@[simp] theorem applyReport_frame (station : Nat) (t : Tally) (s : State) :
    (applyReport station t s).station = s.station ∧ (applyReport station t s).time = s.time ∧
    (applyReport station t s).trigger = s.trigger ∧ (applyReport station t s).cadence = s.cadence ∧
    (applyReport station t s).converter = s.converter ∧ (applyReport station t s).table = s.table ∧
    (applyReport station t s).requester = s.requester ∧ (applyReport station t s).roster = s.roster ∧
    (applyReport station t s).queries = s.queries ∧ (applyReport station t s).draws = s.draws ∧
    (applyReport station t s).pending = s.pending := by
  simp only [applyReport]; split <;> [(split <;> simp); simp]

@[simp] theorem takeReport_frame (station : Nat) (k : Count) (s : State) :
    (takeReport station k s).station = s.station ∧ (takeReport station k s).time = s.time ∧
    (takeReport station k s).trigger = s.trigger ∧ (takeReport station k s).cadence = s.cadence ∧
    (takeReport station k s).converter = s.converter ∧ (takeReport station k s).table = s.table ∧
    (takeReport station k s).requester = s.requester ∧ (takeReport station k s).roster = s.roster ∧
    (takeReport station k s).queries = s.queries ∧ (takeReport station k s).draws = s.draws ∧
    (takeReport station k s).pending = s.pending := by
  unfold takeReport; split <;> [(split <;> simp); simp]

@[simp] theorem sweepResult_frame (src : Addr) (cause : Cause) (s : State) :
    (sweepResult src cause s).station = s.station ∧ (sweepResult src cause s).time = s.time ∧
    (sweepResult src cause s).trigger = s.trigger ∧ (sweepResult src cause s).cadence = s.cadence ∧
    (sweepResult src cause s).table = s.table ∧ (sweepResult src cause s).requester = s.requester ∧
    (sweepResult src cause s).roster = s.roster ∧ (sweepResult src cause s).queries = s.queries ∧
    (sweepResult src cause s).draws = s.draws ∧ (sweepResult src cause s).pending = s.pending := by
  unfold sweepResult; split <;> first | (split <;> simp) | simp

@[simp] theorem sweepLost_frame (station : Nat) (s : State) :
    (sweepLost station s).station = s.station ∧ (sweepLost station s).time = s.time ∧
    (sweepLost station s).trigger = s.trigger ∧ (sweepLost station s).cadence = s.cadence ∧
    (sweepLost station s).converter = s.converter ∧ (sweepLost station s).table = s.table ∧
    (sweepLost station s).requester = s.requester ∧ (sweepLost station s).roster = s.roster ∧
    (sweepLost station s).queries = s.queries ∧ (sweepLost station s).counters = s.counters ∧
    (sweepLost station s).draws = s.draws ∧ (sweepLost station s).pending = s.pending := by
  simp only [sweepLost]; split <;> [(split <;> [(split <;> simp); simp]); simp]

@[simp] theorem callExpiry_frame (s : State) :
    (callExpiry s).station = s.station ∧ (callExpiry s).time = s.time ∧ (callExpiry s).trigger = s.trigger ∧
    (callExpiry s).cadence = s.cadence ∧ (callExpiry s).converter = s.converter ∧ (callExpiry s).table = s.table ∧
    (callExpiry s).watches = s.watches ∧ (callExpiry s).alerts = s.alerts ∧ (callExpiry s).requester = s.requester ∧
    (callExpiry s).roster = s.roster ∧ (callExpiry s).queries = s.queries ∧ (callExpiry s).counters = s.counters ∧
    (callExpiry s).draws = s.draws ∧ (callExpiry s).pending = s.pending := by
  simp only [callExpiry]; split <;> [(split <;> simp); simp]

@[simp] theorem deadlineExpiry_frame (s : State) :
    (deadlineExpiry s).station = s.station ∧ (deadlineExpiry s).time = s.time ∧ (deadlineExpiry s).trigger = s.trigger ∧
    (deadlineExpiry s).cadence = s.cadence ∧ (deadlineExpiry s).converter = s.converter ∧ (deadlineExpiry s).table = s.table ∧
    (deadlineExpiry s).requester = s.requester ∧ (deadlineExpiry s).roster = s.roster ∧ (deadlineExpiry s).queries = s.queries ∧
    (deadlineExpiry s).counters = s.counters ∧ (deadlineExpiry s).draws = s.draws ∧ (deadlineExpiry s).pending = s.pending := by
  unfold deadlineExpiry; split <;> [(split <;> simp); simp]

/-! Jobs (Machine/Jobs.lean) -/

@[simp] theorem publish_frame (r : Finished) (s : State) :
    (publish r s).station = s.station ∧ (publish r s).time = s.time ∧ (publish r s).trigger = s.trigger ∧
    (publish r s).cadence = s.cadence ∧ (publish r s).sweeps = s.sweeps ∧ (publish r s).table = s.table ∧
    (publish r s).watches = s.watches ∧ (publish r s).alerts = s.alerts ∧ (publish r s).requester = s.requester ∧
    (publish r s).roster = s.roster ∧ (publish r s).queries = s.queries ∧ (publish r s).counters = s.counters ∧
    (publish r s).draws = s.draws ∧ (publish r s).pending = s.pending := by
  unfold publish; split <;> [(split <;> simp); simp]

@[simp] theorem selfReport_frame (cause : Cause) (s : State) :
    (selfReport cause s).station = s.station ∧ (selfReport cause s).time = s.time ∧ (selfReport cause s).trigger = s.trigger ∧
    (selfReport cause s).cadence = s.cadence ∧ (selfReport cause s).converter = s.converter ∧
    (selfReport cause s).table = s.table ∧ (selfReport cause s).requester = s.requester ∧
    (selfReport cause s).roster = s.roster ∧ (selfReport cause s).queries = s.queries ∧ (selfReport cause s).draws = s.draws ∧
    (selfReport cause s).pending = s.pending := by
  unfold selfReport; split <;> simp

@[simp] theorem jobDone_frame (j : Job) (s : State) :
    (jobDone j s).station = s.station ∧ (jobDone j s).time = s.time ∧ (jobDone j s).trigger = s.trigger ∧
    (jobDone j s).cadence = s.cadence ∧ (jobDone j s).requester = s.requester ∧ (jobDone j s).roster = s.roster ∧
    (jobDone j s).queries = s.queries ∧ (jobDone j s).draws = s.draws ∧ (jobDone j s).pending = s.pending := by
  simp [jobDone]

@[simp] theorem preempt_frame (j t : Job) (s : State) :
    (preempt j t s).station = s.station ∧ (preempt j t s).time = s.time ∧ (preempt j t s).trigger = s.trigger ∧
    (preempt j t s).cadence = s.cadence ∧ (preempt j t s).sweeps = s.sweeps ∧ (preempt j t s).table = s.table ∧
    (preempt j t s).watches = s.watches ∧ (preempt j t s).alerts = s.alerts ∧ (preempt j t s).requester = s.requester ∧
    (preempt j t s).roster = s.roster ∧ (preempt j t s).bus = s.bus ∧ (preempt j t s).queries = s.queries ∧
    (preempt j t s).counters = s.counters ∧ (preempt j t s).draws = s.draws ∧ (preempt j t s).pending = s.pending := by
  simp [preempt]

@[simp] theorem channelCompletion_frame (s0 s1 s2 s3 : Value) (s : State) :
    (channelCompletion s0 s1 s2 s3 s).station = s.station ∧ (channelCompletion s0 s1 s2 s3 s).time = s.time ∧
    (channelCompletion s0 s1 s2 s3 s).trigger = s.trigger ∧ (channelCompletion s0 s1 s2 s3 s).cadence = s.cadence ∧
    (channelCompletion s0 s1 s2 s3 s).requester = s.requester ∧ (channelCompletion s0 s1 s2 s3 s).roster = s.roster ∧
    (channelCompletion s0 s1 s2 s3 s).queries = s.queries ∧ (channelCompletion s0 s1 s2 s3 s).draws = s.draws ∧
    (channelCompletion s0 s1 s2 s3 s).pending = s.pending := by
  simp only [channelCompletion]; split <;> [simp; (split <;> [simp; (split <;> [(split <;> simp); simp])])]

/-! Roster (Machine/Roster.lean) -/

@[simp] theorem replacePresence_frame (s : State) :
    (replacePresence s).station = s.station ∧ (replacePresence s).time = s.time ∧ (replacePresence s).trigger = s.trigger ∧
    (replacePresence s).cadence = s.cadence ∧ (replacePresence s).converter = s.converter ∧
    (replacePresence s).sweeps = s.sweeps ∧ (replacePresence s).table = s.table ∧ (replacePresence s).watches = s.watches ∧
    (replacePresence s).alerts = s.alerts ∧ (replacePresence s).requester = s.requester ∧
    (replacePresence s).roster = s.roster ∧ (replacePresence s).queries = s.queries ∧
    (replacePresence s).counters = s.counters ∧ (replacePresence s).draws = s.draws ∧
    (replacePresence s).pending = s.pending := by
  simp [replacePresence]

@[simp] theorem placePresence_frame (s : State) :
    (placePresence s).station = s.station ∧ (placePresence s).time = s.time ∧ (placePresence s).trigger = s.trigger ∧
    (placePresence s).cadence = s.cadence ∧ (placePresence s).converter = s.converter ∧ (placePresence s).sweeps = s.sweeps ∧
    (placePresence s).table = s.table ∧ (placePresence s).watches = s.watches ∧ (placePresence s).alerts = s.alerts ∧
    (placePresence s).requester = s.requester ∧ (placePresence s).queries = s.queries ∧
    (placePresence s).counters = s.counters ∧ (placePresence s).draws = s.draws ∧ (placePresence s).pending = s.pending := by
  unfold placePresence; split <;> [simp; (split <;> simp)]

@[simp] theorem presenceReturned_frame (s : State) :
    (presenceReturned s).station = s.station ∧ (presenceReturned s).time = s.time ∧ (presenceReturned s).trigger = s.trigger ∧
    (presenceReturned s).cadence = s.cadence ∧ (presenceReturned s).converter = s.converter ∧
    (presenceReturned s).sweeps = s.sweeps ∧ (presenceReturned s).table = s.table ∧ (presenceReturned s).watches = s.watches ∧
    (presenceReturned s).alerts = s.alerts ∧ (presenceReturned s).requester = s.requester ∧
    (presenceReturned s).queries = s.queries ∧ (presenceReturned s).counters = s.counters ∧
    (presenceReturned s).draws = s.draws ∧ (presenceReturned s).pending = s.pending := by
  unfold presenceReturned; split <;> simp

@[simp] theorem presenceEnded_frame (s : State) :
    (presenceEnded s).station = s.station ∧ (presenceEnded s).time = s.time ∧ (presenceEnded s).trigger = s.trigger ∧
    (presenceEnded s).cadence = s.cadence ∧ (presenceEnded s).converter = s.converter ∧ (presenceEnded s).sweeps = s.sweeps ∧
    (presenceEnded s).table = s.table ∧ (presenceEnded s).watches = s.watches ∧ (presenceEnded s).alerts = s.alerts ∧
    (presenceEnded s).requester = s.requester ∧ (presenceEnded s).queries = s.queries ∧
    (presenceEnded s).counters = s.counters ∧ (presenceEnded s).draws = s.draws ∧ (presenceEnded s).pending = s.pending := by
  unfold presenceEnded; split <;> simp

@[simp] theorem announceRestart_frame (station : Nat) (s : State) :
    (announceRestart station s).station = s.station ∧ (announceRestart station s).time = s.time ∧
    (announceRestart station s).trigger = s.trigger ∧ (announceRestart station s).cadence = s.cadence ∧
    (announceRestart station s).converter = s.converter ∧ (announceRestart station s).sweeps = s.sweeps ∧
    (announceRestart station s).watches = s.watches ∧ (announceRestart station s).roster = s.roster ∧
    (announceRestart station s).queries = s.queries ∧ (announceRestart station s).counters = s.counters ∧
    (announceRestart station s).pending = s.pending := by
  unfold announceRestart eitherFirst
  and_intros <;> exact (settle_field _ (by simp)).trans (by simp)

@[simp] theorem hear_frame (src : Addr) (body : Body) (s : State) :
    (hear src body s).station = s.station ∧ (hear src body s).time = s.time ∧ (hear src body s).trigger = s.trigger ∧
    (hear src body s).cadence = s.cadence ∧ (hear src body s).converter = s.converter ∧ (hear src body s).sweeps = s.sweeps ∧
    (hear src body s).watches = s.watches ∧ (hear src body s).queries = s.queries ∧ (hear src body s).counters = s.counters ∧
    (hear src body s).pending = s.pending := by
  simp only [hear]; split <;> (split <;> simp)

@[simp] theorem silentExpiry_frame (station : Nat) (s : State) :
    (silentExpiry station s).station = s.station ∧ (silentExpiry station s).time = s.time ∧
    (silentExpiry station s).trigger = s.trigger ∧ (silentExpiry station s).cadence = s.cadence ∧
    (silentExpiry station s).converter = s.converter ∧ (silentExpiry station s).sweeps = s.sweeps ∧
    (silentExpiry station s).table = s.table ∧ (silentExpiry station s).watches = s.watches ∧
    (silentExpiry station s).alerts = s.alerts ∧ (silentExpiry station s).requester = s.requester ∧
    (silentExpiry station s).bus = s.bus ∧ (silentExpiry station s).queries = s.queries ∧
    (silentExpiry station s).counters = s.counters ∧ (silentExpiry station s).draws = s.draws ∧
    (silentExpiry station s).pending = s.pending := by
  simp only [silentExpiry]; split <;> [(split <;> simp); simp]

@[simp] theorem announceLost_frame (station : Nat) (s : State) :
    (announceLost station s).station = s.station ∧ (announceLost station s).time = s.time ∧
    (announceLost station s).trigger = s.trigger ∧ (announceLost station s).cadence = s.cadence ∧
    (announceLost station s).converter = s.converter ∧ (announceLost station s).roster = s.roster ∧
    (announceLost station s).queries = s.queries ∧ (announceLost station s).counters = s.counters ∧
    (announceLost station s).pending = s.pending := by
  simp only [announceLost, forgetAsserter_frame]
  and_intros <;> exact (settle_field _ (by simp)).trans (by simp)

@[simp] theorem lostExpiry_frame (station : Nat) (s : State) :
    (lostExpiry station s).station = s.station ∧ (lostExpiry station s).time = s.time ∧
    (lostExpiry station s).trigger = s.trigger ∧ (lostExpiry station s).cadence = s.cadence ∧
    (lostExpiry station s).converter = s.converter ∧ (lostExpiry station s).queries = s.queries ∧
    (lostExpiry station s).counters = s.counters ∧ (lostExpiry station s).pending = s.pending := by
  simp only [lostExpiry]; split <;> [(split <;> simp); simp]

@[simp] theorem presenceExpiry_frame (s : State) :
    (presenceExpiry s).station = s.station ∧ (presenceExpiry s).time = s.time ∧ (presenceExpiry s).trigger = s.trigger ∧
    (presenceExpiry s).cadence = s.cadence ∧ (presenceExpiry s).converter = s.converter ∧ (presenceExpiry s).sweeps = s.sweeps ∧
    (presenceExpiry s).table = s.table ∧ (presenceExpiry s).watches = s.watches ∧ (presenceExpiry s).alerts = s.alerts ∧
    (presenceExpiry s).requester = s.requester ∧ (presenceExpiry s).queries = s.queries ∧
    (presenceExpiry s).counters = s.counters ∧ (presenceExpiry s).draws = s.draws ∧ (presenceExpiry s).pending = s.pending := by
  unfold presenceExpiry; split <;> simp

/-! Query service (Machine/Query.lean) -/

@[simp] theorem answerOne_frame (s : State) :
    (answerOne s).station = s.station ∧ (answerOne s).time = s.time ∧ (answerOne s).trigger = s.trigger ∧
    (answerOne s).cadence = s.cadence ∧ (answerOne s).converter = s.converter ∧ (answerOne s).sweeps = s.sweeps ∧
    (answerOne s).table = s.table ∧ (answerOne s).watches = s.watches ∧ (answerOne s).alerts = s.alerts ∧
    (answerOne s).requester = s.requester ∧ (answerOne s).roster = s.roster ∧ (answerOne s).counters = s.counters ∧
    (answerOne s).draws = s.draws ∧ (answerOne s).pending = s.pending := by
  unfold answerOne; split <;> [(split <;> simp); simp]

@[simp] theorem answer_frame (s : State) :
    (answer s).station = s.station ∧ (answer s).time = s.time ∧ (answer s).trigger = s.trigger ∧
    (answer s).cadence = s.cadence ∧ (answer s).converter = s.converter ∧ (answer s).sweeps = s.sweeps ∧
    (answer s).table = s.table ∧ (answer s).watches = s.watches ∧ (answer s).alerts = s.alerts ∧
    (answer s).requester = s.requester ∧ (answer s).roster = s.roster ∧ (answer s).counters = s.counters ∧
    (answer s).draws = s.draws ∧ (answer s).pending = s.pending := by
  simp [answer]

@[simp] theorem takeQuery_frame (src : Addr) (kind : BitVec 3) (tag : Tag) (arg : QueryArg) (s : State) :
    (takeQuery src kind tag arg s).station = s.station ∧ (takeQuery src kind tag arg s).time = s.time ∧
    (takeQuery src kind tag arg s).trigger = s.trigger ∧ (takeQuery src kind tag arg s).cadence = s.cadence ∧
    (takeQuery src kind tag arg s).converter = s.converter ∧ (takeQuery src kind tag arg s).sweeps = s.sweeps ∧
    (takeQuery src kind tag arg s).table = s.table ∧ (takeQuery src kind tag arg s).watches = s.watches ∧
    (takeQuery src kind tag arg s).alerts = s.alerts ∧ (takeQuery src kind tag arg s).requester = s.requester ∧
    (takeQuery src kind tag arg s).roster = s.roster ∧ (takeQuery src kind tag arg s).draws = s.draws ∧
    (takeQuery src kind tag arg s).pending = s.pending := by
  unfold takeQuery; split <;> [(split <;> [simp; (split <;> simp)]); simp]

/-- A counter raised once for each element. -/
@[simp] theorem bump_foldl_frame {α : Type} (c : Counter) (l : List α) (s : State) :
    (l.foldl (fun s _ => bump c s) s).station = s.station ∧ (l.foldl (fun s _ => bump c s) s).time = s.time ∧
    (l.foldl (fun s _ => bump c s) s).trigger = s.trigger ∧ (l.foldl (fun s _ => bump c s) s).cadence = s.cadence ∧
    (l.foldl (fun s _ => bump c s) s).converter = s.converter ∧ (l.foldl (fun s _ => bump c s) s).sweeps = s.sweeps ∧
    (l.foldl (fun s _ => bump c s) s).table = s.table ∧ (l.foldl (fun s _ => bump c s) s).watches = s.watches ∧
    (l.foldl (fun s _ => bump c s) s).alerts = s.alerts ∧ (l.foldl (fun s _ => bump c s) s).requester = s.requester ∧
    (l.foldl (fun s _ => bump c s) s).roster = s.roster ∧ (l.foldl (fun s _ => bump c s) s).bus = s.bus ∧
    (l.foldl (fun s _ => bump c s) s).queries = s.queries ∧ (l.foldl (fun s _ => bump c s) s).draws = s.draws ∧
    (l.foldl (fun s _ => bump c s) s).pending = s.pending := by
  induction l generalizing s with
  | nil => simp
  | cons k l ih => simp [ih]

@[simp] theorem dropQueries_frame (s : State) :
    (dropQueries s).station = s.station ∧ (dropQueries s).time = s.time ∧ (dropQueries s).trigger = s.trigger ∧
    (dropQueries s).cadence = s.cadence ∧ (dropQueries s).converter = s.converter ∧ (dropQueries s).sweeps = s.sweeps ∧
    (dropQueries s).table = s.table ∧ (dropQueries s).watches = s.watches ∧ (dropQueries s).alerts = s.alerts ∧
    (dropQueries s).requester = s.requester ∧ (dropQueries s).roster = s.roster ∧ (dropQueries s).bus = s.bus ∧
    (dropQueries s).draws = s.draws ∧ (dropQueries s).pending = s.pending := by
  simp [dropQueries]

end Sys2Proof.Machine
end

