-- ==== Sys2Proof/Laws/Maps.lean ====
section
/-! SUPPORT. Maps with strictly rising keys: a look-up after a change finds what was put there and leaves every other key alone, and every
change keeps the one form a map is kept in. -/

namespace Sys2Proof

variable {α : Type}

@[simp] theorem Map.find_set_self (m : Map α) (k : Nat) (v : α) : Map.find (Map.set m k v) k = some v := by
  induction m with
  | nil => simp [Map.set, Map.find]
  | cons p m ih =>
    obtain ⟨j, w⟩ := p
    unfold Map.set
    split
    · simp [Map.find]
    · split
      · simp [Map.find]
      · have h : ¬ j = k := by omega
        simp [Map.find, h, ih]

theorem Map.find_set_ne (m : Map α) {k l : Nat} (v : α) (h : l ≠ k) : Map.find (Map.set m k v) l = Map.find m l := by
  induction m with
  | nil =>
    have h' : ¬ k = l := by omega
    simp [Map.set, Map.find, h']
  | cons p m ih =>
    obtain ⟨j, w⟩ := p
    have h' : ¬ k = l := by omega
    unfold Map.set
    split
    · simp [Map.find, h']
    · split
      · next e => simp [Map.find, h', ← e]
      · simp only [Map.find, ih]

/-- A look-up after a change of one key. -/
theorem Map.find_set (m : Map α) (k l : Nat) (v : α) :
    Map.find (Map.set m k v) l = if l = k then some v else Map.find m l := by
  by_cases h : l = k
  · simp [h]
  · simp [Map.find_set_ne m v h, h]

theorem Map.find_erase (m : Map α) (k l : Nat) : Map.find (Map.erase m k) l = if l = k then none else Map.find m l := by
  induction m with
  | nil => simp [Map.erase, Map.find]
  | cons p m ih =>
    obtain ⟨j, w⟩ := p
    have ih' : Map.find (List.filter (fun p => p.1 != k) m) l = if l = k then none else Map.find m l := ih
    by_cases hj : j = k
    · by_cases hl : l = k
      · subst hl
        simpa [Map.erase, hj] using ih'
      · have hkl : ¬ k = l := by omega
        simp [Map.erase, Map.find, hj, hl, hkl, ih']
    · by_cases hjl : j = l
      · have hl : ¬ l = k := by omega
        simp [Map.erase, Map.find, hl, hjl]
      · simp [Map.erase, Map.find, hj, hjl, ih']

theorem Map.find_adjust (m : Map α) (k l : Nat) (f : α → α) :
    Map.find (Map.adjust m k f) l = if l = k then (Map.find m l).map f else Map.find m l := by
  induction m with
  | nil => simp [Map.adjust, Map.find]
  | cons p m ih =>
    obtain ⟨j, w⟩ := p
    have ih' : Map.find (List.map (fun p => if p.1 = k then (p.1, f p.2) else p) m) l =
        if l = k then (Map.find m l).map f else Map.find m l := ih
    by_cases hj : j = k <;> by_cases hjl : j = l <;> by_cases hl : l = k <;> simp_all [Map.adjust, Map.find]

theorem Map.find_mapRecords (g : Nat → α → α) (m : Map α) (l : Nat) :
    Map.find (Map.mapRecords g m) l = (Map.find m l).map (g l) := by
  induction m with
  | nil => simp [Map.mapRecords, Map.find]
  | cons p m ih =>
    obtain ⟨j, w⟩ := p
    have ih' : Map.find (List.map (fun p => (p.1, g p.1 p.2)) m) l = (Map.find m l).map (g l) := ih
    by_cases hj : j = l <;> simp_all [Map.mapRecords, Map.find]

/-- The keys of a map after a change of one key. -/
theorem Map.mem_keys_set (m : Map α) (k l : Nat) (v : α) : l ∈ Map.keys (Map.set m k v) ↔ l = k ∨ l ∈ Map.keys m := by
  induction m with
  | nil => simp [Map.set, Map.keys]
  | cons p m ih =>
    obtain ⟨j, w⟩ := p
    unfold Map.set
    split
    · simp [Map.keys]
    · split
      · next e => subst e; simp [Map.keys]
      · have ih' : l ∈ List.map Prod.fst (Map.set m k v) ↔ l = k ∨ l ∈ List.map Prod.fst m := ih
        simp only [Map.keys, List.map_cons, List.mem_cons, ih']
        tauto

theorem Map.wf_set {m : Map α} (h : Map.wf m) (k : Nat) (v : α) : Map.wf (Map.set m k v) := by
  induction m with
  | nil => simp [Map.wf, Map.set, Map.keys]
  | cons p m ih =>
    obtain ⟨j, w⟩ := p
    have hp := List.pairwise_cons.mp h
    unfold Map.set
    split
    · next hk =>
      refine List.pairwise_cons.mpr ⟨fun a ha => ?_, h⟩
      rcases List.mem_cons.mp ha with e | e
      · simp only at e; omega
      · exact Nat.lt_trans hk (hp.1 a e)
    · split
      · next e => subst e; exact h
      · next h1 h2 =>
        refine List.pairwise_cons.mpr ⟨fun a ha => ?_, ih hp.2⟩
        rcases (Map.mem_keys_set m k a v).mp ha with e | e
        · subst e; simp only; omega
        · exact hp.1 a e

/-- Leaving records out keeps the form. -/
theorem Map.wf_filter {m : Map α} (h : Map.wf m) (p : Nat × α → Bool) : Map.wf (m.filter p) :=
  List.Pairwise.sublist (List.Sublist.map _ List.filter_sublist) h

theorem Map.wf_erase {m : Map α} (h : Map.wf m) (k : Nat) : Map.wf (Map.erase m k) := Map.wf_filter h _

theorem Map.wf_keep {m : Map α} (h : Map.wf m) (p : Nat → Bool) : Map.wf (Map.keep p m) := Map.wf_filter h _

@[simp] theorem Map.keys_adjust (m : Map α) (k : Nat) (f : α → α) : Map.keys (Map.adjust m k f) = Map.keys m := by
  simp only [Map.keys, Map.adjust, List.map_map]
  refine List.map_congr_left fun p _ => ?_
  simp only [Function.comp]
  split <;> rfl

@[simp] theorem Map.keys_mapRecords (g : Nat → α → α) (m : Map α) : Map.keys (Map.mapRecords g m) = Map.keys m := by
  simp only [Map.keys, Map.mapRecords, List.map_map, Function.comp_def]

theorem Map.wf_adjust {m : Map α} (h : Map.wf m) (k : Nat) (f : α → α) : Map.wf (Map.adjust m k f) := by
  simpa only [Map.wf, Map.keys_adjust] using h

theorem Map.wf_mapRecords {m : Map α} (h : Map.wf m) (g : Nat → α → α) : Map.wf (Map.mapRecords g m) := by
  simpa only [Map.wf, Map.keys_mapRecords] using h

/-- A record that a look-up finds is in the map. -/
theorem Map.mem_of_find {m : Map α} {k : Nat} {v : α} (h : Map.find m k = some v) : (k, v) ∈ m := by
  induction m with
  | nil => simp [Map.find] at h
  | cons p m ih =>
    obtain ⟨j, w⟩ := p
    unfold Map.find at h
    split at h
    · next e => subst e; simp_all
    · exact List.mem_cons_of_mem _ (ih h)

/-- In a map of the kept form a look-up finds every record that is there. -/
theorem Map.find_of_mem {m : Map α} (h : Map.wf m) {k : Nat} {v : α} (hm : (k, v) ∈ m) : Map.find m k = some v := by
  induction m with
  | nil => simp at hm
  | cons p m ih =>
    obtain ⟨j, w⟩ := p
    have hp := List.pairwise_cons.mp h
    rcases List.mem_cons.mp hm with e | e
    · injection e with e1 e2
      simp [Map.find, e1, e2]
    · have hlt : j < k := hp.1 k (List.mem_map_of_mem e)
      have hne : ¬ j = k := by omega
      simp [Map.find, hne, ih hp.2 e]

/-- Maps of the kept form that answer every look-up alike are the same data. -/
theorem Map.ext_find {m n : Map α} (hm : Map.wf m) (hn : Map.wf n) (h : ∀ k, Map.find m k = Map.find n k) : m = n := by
  have nodup {m : Map α} (hm : Map.wf m) : m.Nodup :=
    List.Nodup.of_map Prod.fst (List.Pairwise.imp (fun h => Nat.ne_of_lt h) hm)
  have mem (p : Nat × α) : p ∈ m ↔ p ∈ n :=
    ⟨fun hp => Map.mem_of_find (h p.1 ▸ Map.find_of_mem hm hp), fun hp => Map.mem_of_find ((h p.1).symm ▸ Map.find_of_mem hn hp)⟩
  have sorted {m : Map α} (hm : Map.wf m) : m.Pairwise (fun a b => a.1 < b.1) := List.pairwise_map.mp hm
  exact List.Perm.eq_of_pairwise (fun a b _ _ h1 h2 => absurd h1 (by omega)) (sorted hm) (sorted hn)
    ((List.perm_ext_iff_of_nodup (nodup hm) (nodup hn)).mpr mem)

end Sys2Proof
end

