-- ==== Sys2Proof/Laws/Ops.lean ====
section
/-! SUPPORT. What the shared operations do, said once: the list helpers on a list cut at the element they pick, sets coded as words, the
quotas, and the operations that have nothing to do (no watch, nothing to announce, nothing to ask for), and how a peer's frame comes in. -/

namespace Sys2Proof.Machine

open Sys2Proof.Safety

/-! Lists -/

theorem updateAt_eq_set {α : Type} (f : α → α) (n : Nat) (l : List α) (x : α) (h : l[n]? = some x) :
    updateAt f n l = l.set n (f x) := by
  induction l generalizing n with
  | nil => simp at h
  | cons a l ih =>
    cases n with
    | zero => simp_all [updateAt]
    | succ n => simpa [updateAt] using ih n (by simpa using h)

theorem updateAt_const {α : Type} (x : α) (n : Nat) (l : List α) : updateAt (fun _ => x) n l = l.set n x := by
  induction l generalizing n with
  | nil => cases n <;> simp [updateAt]
  | cons a l ih => cases n <;> simp [updateAt, ih]

theorem updateFirst_of_split {α : Type} {p : α → Bool} (f : α → α) {l1 : List α} {x : α} (l2 : List α)
    (h : ∀ y ∈ l1, p y = false) (hx : p x = true) : updateFirst p f (l1 ++ x :: l2) = l1 ++ f x :: l2 := by
  induction l1 with
  | nil => simp [updateFirst, hx]
  | cons a l ih => simp [updateFirst, h a (by simp), ih fun y hy => h y (by simp [hy])]

theorem updateFirst_of_none {α : Type} {p : α → Bool} (f : α → α) {l : List α} (h : ∀ y ∈ l, p y = false) :
    updateFirst p f l = l := by
  induction l with
  | nil => rfl
  | cons a l ih => simp [updateFirst, h a (by simp), ih fun y hy => h y (by simp [hy])]

theorem removeFirst_of_split {α : Type} {p : α → Bool} {l1 : List α} {x : α} (l2 : List α)
    (h : ∀ y ∈ l1, p y = false) (hx : p x = true) : removeFirst p (l1 ++ x :: l2) = l1 ++ l2 := by
  induction l1 with
  | nil => simp [removeFirst, hx]
  | cons a l ih => simp [removeFirst, h a (by simp), ih fun y hy => h y (by simp [hy])]

theorem find?_of_split {α : Type} {p : α → Bool} {l1 : List α} {x : α} (l2 : List α)
    (h : ∀ y ∈ l1, p y = false) (hx : p x = true) : (l1 ++ x :: l2).find? p = some x := by
  have : l1.find? p = none := by simpa using h
  simp [List.find?_append, this, hx]

/-! Sets -/

theorem setHas_setInsert {w : Nat} (s : BitVec w) (i j : Nat) (h : i < w) : setHas (setInsert s i) j = (setHas s j || decide (i = j)) := by
  simp [setHas, setInsert, BitVec.getLsbD_twoPow, h]

theorem setHas_setErase {w : Nat} (s : BitVec w) (i j : Nat) : setHas (setErase s i) j = (setHas s j && !decide (i = j)) := by
  simp only [setHas, setErase, BitVec.getLsbD_and, BitVec.getLsbD_not, BitVec.getLsbD_twoPow]
  by_cases hj : j < w
  · by_cases e : i = j <;> simp [e, hj]
  · simp [BitVec.getLsbD_of_ge s j (by omega)]

/-! An open order -/

/-- A free order of a list is a permutation of it. -/
theorem freeOrder_perm {α : Type} (n : Nat) (l : List α) : (freeOrder n l).Perm l := by
  induction l generalizing n with
  | nil => exact .refl _
  | cons x l ih =>
    cases l with
    | nil => exact .refl _
    | cons y l =>
      have h := ih (n + 1)
      have hl := h.length_eq
      simp only [freeOrder]
      refine (List.perm_insertIdx x _ ?_).trans (h.cons x)
      have := Nat.mod_lt (Config.orderChoice n) (Nat.succ_pos (y :: l).length)
      rw [Nat.succ_eq_add_one] at this
      omega

/-! Quotas and timers -/

theorem held_append (p : Producer) (l m : List QueuedFrame) : held p (l ++ m) = held p l + held p m := by
  simp [held, List.filter_append]

theorem held_enqueue (p : Producer) (dst : Addr) (body : Body) (s : State) :
    held p (enqueue dst body s).bus.queue = held p s.bus.queue + (if Body.producer body = some p then 1 else 0) := by
  rw [enqueue_queue, held_append]
  by_cases h : Body.producer body = some p <;> simp [held, QueuedFrame.isOf, h]

theorem enqueue_eq_withFrame (dst : Addr) (body : Body) (s : State) : enqueue dst body s = withFrame s dst body := rfl

theorem isDue_iff (t : Timer) : isDue t = true ↔ t = some 0 := by simp [isDue]

/-! The alert unit with nothing to announce -/

theorem announceOne_of_nothing {s : State} (h : NothingToAnnounce s) : announceOne s = s := by
  have hf : s.alerts.finals.find? finalEligible = none := by
    simp only [List.find?_eq_none]
    intro f hf
    have := h.2 f hf
    cases hff : f.frame <;> simp_all [finalEligible]
  have hr : s.alerts.queue.find? recordEligible = none := by
    simp only [List.find?_eq_none]
    intro r hr
    have := h.1 r hr
    cases ha : r.announce <;> cases hrf : r.frame <;> simp_all [recordEligible]
  simp [announceOne, hf, hr]

theorem announce_of_nothing {s : State} (h : NothingToAnnounce s) : announce s = s := by
  simp [announce, announceOne_of_nothing h]

theorem announce_of_not_active {s : State} (h : s.isActive = false) : announce s = s := by simp [announce, announceOne, h]

theorem announce_of_full {s : State} (h : 2 ≤ held .alertUnit s.bus.queue) : announce s = s := by
  simp [announce, announceOne, quotaFree, Producer.quota, Nat.not_lt.mpr h]

/-! Watches, where there are none -/

theorem watchIndices_of_none {s : State} (h : s.cfg.watches = []) : watchIndices s = [] := by simp [watchIndices, h]

theorem updateNotice_of_none {s : State} (h : s.cfg.watches = []) (keys : List Nat) : updateNotice keys s = s := by
  simp [updateNotice, watchIndices_of_none h]

theorem closeNotice_of_none {s : State} (h : s.cfg.watches = []) (n : Count) : closeNotice n s = s := by
  simp [closeNotice, watchIndices_of_none h]

theorem unreachableNotice_of_none {s : State} (h : s.cfg.watches = []) (k : Nat) : unreachableNotice k s = s := by
  simp [unreachableNotice, watchIndices_of_none h]

theorem reachableNotice_of_none {s : State} (h : s.cfg.watches = []) (k : Nat) : reachableNotice k s = s := by
  simp [reachableNotice, watchIndices_of_none h]

/-! The requester with nothing to ask for and nothing to send -/

theorem issueOne_of_no_wanted {s : State} (h : s.requester.wanted = []) : issueOne s = s := by
  have hc : candidates s = [] := by simp [candidates, h]
  have hn : nextTarget s = none := by
    unfold nextTarget
    rw [hc]
    cases s.requester.served <;> rfl
  simp [issueOne, hn]

theorem sendDue_of_none {s : State} (h : ∀ e ∈ s.requester.pending, e.stage ≠ .due) : sendDue s = s := by
  have : s.requester.pending.find? isDueEntry = none := by
    simp only [List.find?_eq_none]
    intro e he
    simp [isDueEntry, h e he]
  simp [sendDue, this]

theorem pump_of_quiet {s : State} (h : RequesterQuiet s) : pump s = s := by
  simp [pump, issueOne_of_no_wanted h.1, sendDue_of_none h.2]

/-! A peer's frame -/

/-- The roster's part of a frame from a peer that it does not hold LOST and that has not restarted (R139). -/
theorem hear_of_fromPeer {s : State} {src : Addr} (hl : holdsLost s src.toNat = false) (body : Body)
    (hj : carriesJoining body = false) :
    hear src body s = { s with roster := { s.roster with
      peers := s.roster.peers.set src.toNat (heardPeer s.time (infoAfter (s.roster.peers.find src.toNat) body)) } } := by
  simp [hear, hl, hj]

/-- While a frame of the station that does not lose to it is on the line, a frame is not received (R149). -/
theorem receive_of_not_wins {s : State} {f : Frame} {q : QueuedFrame} (hq : q ∈ onLineFrames s.bus)
    (hk : Frame.key q.frame ≤ Frame.key f) : receive f s = s := by
  have : winsLine (Frame.key f) s = false := by
    simp only [winsLine, List.all_eq_false]
    exact ⟨q, hq, by simp; omega⟩
  simp [receive, hears, this]

/-- Only a RESULT has a part for the requester alone (R159). -/
theorem dispatchRequester_eq_id {f : Frame} (h : ∀ cause items, f.body ≠ .result cause items) : dispatchRequester f = id := by
  funext s
  unfold dispatchRequester
  split <;> simp_all

/-- A well-formed frame from a peer to this station or to all is taken by the roster and by the block it is for (R158). -/
theorem receive_of_reaches {s : State} {f : Frame} (h : Reaches s f.src f.body) (hw : Frame.wellFormed f = true)
    (hd : f.dst = allStations ∨ f.dst = s.own) :
    receive f s = anyOrder (hear f.src f.body) (dispatch f) (dispatchRequester f) s := by
  have hr : hears (Frame.key f) s = true := by
    have hw' : winsLine (Frame.key f) s = true :=
      List.all_eq_true.mpr fun q hq => decide_eq_true (h.2.2.2 q hq)
    have hs : receives s = true := by
      have := h.1
      unfold State.works at this
      unfold receives
      split at this <;> simp_all
    simp [hears, hs, hw']
  have hk : keptByFilter f s = true := by
    rcases hd with e | e <;> simp [keptByFilter, e]
  simp [receive, hr, hw, h.1, h.2.2.1, takeValid, hk]

end Sys2Proof.Machine
end

