-- ==== Sys2Proof/Tests/Slice0.lean ====
section
/-! SUPPORT. Tests. The expected values come from the tables and examples of spec/ and from the layouts of chapter 12 worked out by hand
(the check values by a separate computation of R182). After them, states and operands that meet the hypotheses of each statement of
Sys2Proof/Certificates/Slice0/Obligations.lean. -/

namespace Sys2Proof.Tests

set_option Elab.async false

open Sys2Proof Sys2Proof.Machine Sys2Proof.Safety

/-! ## States -/

/-- Settings of a station 3 without watches, every group with quorum 1 on ALA. -/
def cfg : Settings := { Settings.blank with
  own := 3, measurable := 0x0F, triggerSet := 0x03, triggerSamples := .four, debounce := 4, sweepSet := 0x01, sweepPeriod := 1000,
  deadline := 100, cadenceSet := 0x02, cadence := some 500, settle := 10, presence := 3, freshness := 500, reply := 20,
  alertRepeat := 500, groups := List.replicate 8 { quorum := 1, lineA := true, lineB := false }, signature := 0x1234 }

/-- A LEVEL watch of station 5's channel 1: RISING, high 2000, hysteresis 20, persistence 1, no group. -/
def watch : WatchConfig where
  kind := .level
  sourceA := { station := 5, channel := 1 }
  sourceB := none
  moment := .onUpdate
  high := some 2000
  low := none
  hysteresis := 20
  crossing := .rising
  persistence := 1
  group := none
  level := 1

/-- The same settings with watches. -/
def cfgOf (ws : List WatchConfig) : Settings := { cfg with watches := ws }

/-- An entry that is FRESH since a stamp. -/
def entry (pinned : Bool) (stamp : Time) (timer : Nat) : Entry where
  pinned := pinned
  state := .fresh
  unreachable := false
  latest := some { value := 100, flags := { clippedLow := false, clippedHigh := false, averaged := false }, cause := .cadence 1, stamp := stamp }
  sweep := none
  timer := some timer

/-- What a peer's PRESENCE carries. -/
def said : Presence where
  active := true
  participation := true
  period := 3
  signature := 7
  lastSweep := some 40
  alerts := 0

/-- A slot that is PRESENT. -/
def slot : Peer where
  state := .present
  heard := 0
  info := some said
  quiet := some 3000
  gone := some 6000

/-- A station with these settings in a station state, peers 5 and 9 PRESENT, its own entries and station 5's channel 1 FRESH. -/
def station (c : Settings) (m : Mode) : State := { State.reset with
  station := { State.reset.station with mode := m, image := some { bytes := [], settings := c } }
  time := 1000
  trigger := { line := .low, accepted := some .low, debounce := none, count := 0 }
  table := [(24, entry true 900 400), (25, entry true 900 400), (26, entry true 900 400), (27, entry true 900 400), (41, entry true 900 400)]
  watches := c.watches.map (fun _ => WatchRun.initial)
  alerts := { AlertUnit.empty with groups := c.groups.map Group.ofConfig }
  roster := { Roster.empty with self := some 3, peers := [(5, slot), (9, slot)] } }

/-- The station ACTIVE, without watches. -/
def active : State := station cfg .active

/-- A frame in its transmit queue. -/
def frameOf (body : Body) : QueuedFrame where
  frame := { src := 3, dst := 31, body := body }
  attempts := 0
  onLine := false
  withdrawn := false
  orphan := false

/-- A frame on the line. -/
def sending (body : Body) : QueuedFrame := { frameOf body with onLine := true }

/-- The station with a transmit queue. -/
def State.withQueue (s : State) (l : List QueuedFrame) : State := { s with bus := { s.bus with queue := l } }

/-- An item of a RESULT. -/
def item (c : Channel) (v : Value) : Item :=
  { channel := c, value := v, flags := { clippedLow := false, clippedHigh := false, averaged := false } }

/-- An entry of the pending table for station 9. -/
def asked (tag : Tag) (attempts : Nat) (st : Stage) : PendingEntry where
  target := 9
  tag := tag
  channels := 0x05
  attempts := attempts
  stage := st
  duplicateUsed := false

/-- The station with a pending table. -/
def State.withPending (s : State) (l : List PendingEntry) : State := { s with requester := { s.requester with pending := l } }

/-- The record of watch 0. -/
def record (q : Count) (threshold acknowledged announce : Bool) (f : Option Alert) : AlertRecord where
  watch := 0
  sequence := q
  causes := { threshold := threshold, sourceLost := false }
  acknowledged := acknowledged
  announce := announce
  frame := f
  changed := false
  zone := .above
  value := some 2100

/-- An ALERT of watch 4 in group 1 (R106). -/
def alert : Alert where
  watch := 4
  group := some 1
  cleared := false
  threshold := true
  sourceLost := false
  level := 1
  zone := .above
  sequence := 9
  value := 0xFF9C

/-- The station with one alert record. -/
def State.withRecord (s : State) (r : AlertRecord) : State := { s with alerts := { s.alerts with queue := [r] } }

/-- The state a command leads to. -/
def after (i : Instr) (s : State) : State :=
  match exec i s with
  | .next t => t
  | _ => s

/-! ## Well-formed commands: an ill-formed one for each check -/

theorem test_wf_presence : (Instr.rxPresence 5 31 said).wf = true := by decide
theorem test_wf_refuses_length : (Instr.rxMeasure 5 3 1 1 [0, 1, 2, 3, 4, 5, 6, 7, 0]).wf = false := by decide
theorem test_wf_refuses_empty_result : (Instr.rxResult 5 31 (.cadence 1) []).wf = false := by decide
theorem test_wf_refuses_source_0 : (Instr.rxSweep 0 31 1).wf = false := by decide
theorem test_wf_refuses_source_31 : (Instr.rxAck 31 3 1).wf = false := by decide
theorem test_wf_refuses_directed_sweep : (Instr.rxSweep 5 3 1).wf = false := by decide
theorem test_wf_refuses_broadcast_query : (Instr.queryStatus 5 31 1 .absent).wf = false := by decide
theorem test_wf_refuses_alert_count_17 : (Instr.rxPresence 5 31 { said with alerts := 17 }).wf = false := by decide
theorem test_wf_refuses_requester_31 : (Instr.rxResult 5 31 (.measure 31 1) [item 0 1]).wf = false := by decide
theorem test_wf_refuses_value_4096 : (Instr.rxAlert 5 31 { alert with value := 4096 }).wf = false := by decide
theorem test_wf_refuses_reply_field : (Instr.rxReply 5 3 1 5 false [8]).wf = false := by decide
theorem test_wf_refuses_key_of_no_station : (Instr.freshnessExpiry { station := 0, channel := 1 }).wf = false := by decide
theorem test_wf_refuses_timer_of_no_station : (Instr.lostTimerExpiry 31).wf = false := by decide
theorem test_table_gives_no_bits : decodeTableWord 16 0xFFFF = none := by decide

/-! ## Values, zones, sweep numbers -/

/-- Table 1-1, rows 1 to 3. -/
theorem test_averages : averageOf 1000 1001 1001 1001 = 1001 ∧ averageOf 1000 1000 1001 1001 = 1001 ∧
    averageOf 1000 1000 1000 1001 = 1000 := by decide

/-- Table 1-1, rows 4 to 6. -/
theorem test_averages_clipped : averageOf 0 1 1 1 = 1 ∧ averageOf 4095 4095 4094 4095 = 4095 ∧ averageOf 0 4095 4095 4095 = 3071 ∧
    qualityOf [0, 1, 1, 1] = { clippedLow := true, clippedHigh := false, averaged := true } ∧
    qualityOf [0, 4095, 4095, 4095] = { clippedLow := true, clippedHigh := true, averaged := true } := by decide

/-- Table 3-1. -/
theorem test_serial_order : newer 41 40 = true ∧ newer 40 41 = false ∧ newer 2 65534 = true ∧ newer 65534 2 = false ∧
    newer 32807 40 = true ∧ newer 32808 40 = false ∧ newer 40 32808 = false ∧ newer 40 40 = false := by decide

/-- Table 3-2. -/
theorem test_call_timer : callDuration { cfg with own := 9 } = 1036 ∧ callDuration { cfg with own := 30 } = 1120 := by decide

/-- The watch of Table 5-3. -/
def difference : WatchConfig := { watch with high := some 120, low := some (-80), hysteresis := 20 }

/-- Table 5-3, the column of UNKNOWN and INSIDE, from 120 down to −80. -/
theorem test_zones_plain : [120, 119, 0, -79, -80].map (zoneOf difference .unknown) = [.above, .inside, .inside, .inside, .below] := by
  decide

/-- Table 5-3, the columns of ABOVE and BELOW at the ends of their bands. -/
theorem test_zones_widened : [100, 99, -79, -80].map (zoneOf difference .above) = [.above, .inside, .inside, .below] ∧
    [120, -59, -60, -79].map (zoneOf difference .below) = [.above, .inside, .below, .below] := by decide

/-! ## Frames: bytes from the layouts of Table 12-1 and Table 12-2 -/

/-- The check value of the nine digits under R182's register, FFFFh and 1021h. -/
theorem test_check_value : checkValue [0x31, 0x32, 0x33, 0x34, 0x35, 0x36, 0x37, 0x38, 0x39] = 0x29B1 := by decide +kernel

theorem test_presence_bytes :
    frameBytes ⟨3, 31, .presence ⟨true, true, 3, 0x1234, some 40, 2⟩⟩ =
      [0xC6, 0x3F, 0x06, 0xE3, 0x12, 0x34, 0x00, 0x28, 0x02, 0xD0, 0xBE] := by decide +kernel

theorem test_sweep_bytes : frameBytes ⟨5, 31, .sweep 41⟩ = [0x4A, 0x5F, 0x02, 0x00, 0x29, 0x3C, 0x34] := by decide +kernel

theorem test_measure_bytes : frameBytes ⟨3, 9, .measure 7 1 [0, 2]⟩ = [0x46, 0x69, 0x04, 0x07, 0x01, 0x00, 0x02, 0x55, 0xA4] := by
  decide +kernel

theorem test_result_bytes :
    frameBytes ⟨5, 31, .result (.cadence 86) [⟨2, 1001, ⟨false, false, true⟩⟩]⟩ =
      [0x8A, 0x9F, 0x06, 0x03, 0x00, 0x56, 0x02, 0x43, 0xE9, 0x36, 0x30] := by decide +kernel

theorem test_refuse_bytes : frameBytes ⟨7, 20, .refuse .query 4 7⟩ = [0x8E, 0xB4, 0x02, 0x84, 0x07, 0x0E, 0x8F] := by decide +kernel

theorem test_alert_bytes : frameBytes ⟨5, 31, .alert alert⟩ =
    [0x0A, 0xDF, 0x06, 0x94, 0x4E, 0x00, 0x09, 0xFF, 0x9C, 0x70, 0x76] := by decide +kernel

theorem test_ack_bytes : frameBytes ⟨20, 5, .ack 9⟩ = [0x28, 0xE5, 0x02, 0x00, 0x09, 0xDC, 0x73] := by decide +kernel

theorem test_query_bytes : frameBytes ⟨20, 7, .query 1 6 (.two 9 2)⟩ = [0xE9, 0x07, 0x04, 0x06, 0x01, 0x09, 0x02, 0x09, 0xD5] := by
  decide +kernel

theorem test_reply_bytes : frameBytes ⟨7, 20, .reply 6 1 true []⟩ = [0x8F, 0x34, 0x02, 0x06, 0x81, 0xF5, 0x52] := by decide +kernel

/-- The bytes of an ALERT are read back. -/
theorem test_alert_read : readBytes [0x0A, 0xDF, 0x06, 0x94, 0x4E, 0x00, 0x09, 0xFF, 0x9C, 0x70, 0x76] = .frame ⟨5, 31, .alert alert⟩ := by
  decide +kernel

/-- A last byte that differs fails the check, and so does a frame cut short (R182). -/
theorem test_check_failed : readBytes [0x4A, 0x5F, 0x02, 0x00, 0x29, 0x3C, 0x35] = .checkFailed ∧
    readBytes [0x4A, 0x5F, 0x02, 0x00, 0x29, 0x3C] = .checkFailed := by decide +kernel

/-- Class 1 with kind code 1 is none of the nine kinds (R182); the check value matches. -/
theorem test_malformed : readBytes ([0x4A, 0x3F, 0x02, 0x00, 0x29] ++ wordBytes (checkValue [0x4A, 0x3F, 0x02, 0x00, 0x29])) = .malformed := by
  decide +kernel

/-! ## Loading: an image of 31 bytes (Table 12-4) -/

/-- The image but for its last byte: station 3, measurable 0 to 3, rate 2 Hz, sweep period 1000 ms, check value 29E4h. -/
def imageHead : List Byte :=
  [0xA7, 31, 3, 0x0F, 0x03, 4, 0, 4, 0x01, 1, 3, 10, 0x02, 1, 3, 10, 3, 5, 2, 0, 0x11, 0, 0, 0, 0, 0, 0, 0, 0, 0x29]

/-- LOADING with every byte but the last. -/
def loading : State := { State.reset with station := { State.reset.station with mode := .loading, reading := imageHead } }

theorem test_image_is_sound : imageFault (imageHead ++ [0xE4]) = none := by decide +kernel
theorem test_image_check_fails : imageFault (imageHead ++ [0xE5]) = some .imageCheck := by decide +kernel
theorem test_load_joins : (after (.configByteGiven 0xE4) loading).station.mode = .joining ∧
    (after (.configByteGiven 0xE4) loading).table.keys = [24, 25, 26, 27] := by decide +kernel
theorem test_load_queues_presence : (after (.configByteGiven 0xE4) loading).bus.queue.map (fun q => q.frame) =
    [⟨3, 31, .presence ⟨false, true, 3, 0x29E4, none, 0⟩⟩] := by decide +kernel
theorem test_image_absent : (after .configByteUngiven loading).station.lastFault = some .imageAbsent := by decide +kernel

/-- An own address of 31 fails at offset 2 (R167, Table 12-4). -/
theorem test_image_range :
    let body := imageHead.set 2 31
    imageFault (body.take 29 ++ wordBytes (checkValue (body.take 29))) = some (.imageRange 2) := by decide +kernel

/-! ## Worked examples of the chapters, and one-step checks -/

/-- Station 7 of Table 1-2, its PEER queue written as requester and tag, a SWEEP job running. -/
def station7 (queue : List (Byte × Tag)) : State :=
  let s := station { cfg with own := 7, measurable := 0x7F } .active
  { s with converter := { Converter.empty with
      running := some (newJob 1 .one (.sweep 1)), peers := queue.map (fun p => newJob 1 .one (.measure p.1 p.2)) } }

/-- Table 1-2, arrivals 1 to 4. -/
theorem test_measure_refusals :
    let s := station7 [(12, 40), (15, 3), (21, 200), (9, 17)]
    measureRefusal s 12 41 1 [3, 3] = some .badRequest ∧ measureRefusal s 12 42 2 [7] = some .badRequest ∧
    measureRefusal s 12 43 1 [7] = some .badChannel ∧ measureRefusal s 12 40 1 [4] = some .duplicate := by decide

/-- Table 1-2, arrivals 5 to 8. -/
theorem test_measure_fullness :
    let s := station7 [(12, 40), (15, 3), (21, 200), (9, 17), (20, 40), (3, 1)]
    measureRefusal (station7 [(12, 40), (15, 3), (21, 200), (9, 17)]) 20 40 1 [4] = none ∧
    measureRefusal s 8 77 1 [2] = some .queueFull ∧ measureRefusal s 3 1 4 [0, 6] = some .duplicate := by decide

/-- A table of 40 pinned and 8 cached entries; the two oldest of Table 4-3, (20, 1) and (20, 3), are keys 161 and 163. -/
def crowded : Map Entry :=
  (List.range 40).map (fun i => (i, entry true 100 400)) ++ (List.range 6).map (fun i => (100 + i, entry false 79960 400)) ++
    [(161, entry false 61200 400), (163, entry false 61200 400)]

/-- Table 4-3: the RESULT from station 21 evicts (20, 1) and then (20, 3). -/
theorem test_eviction :
    let t := applyBatch 21 (.cadence 940) [item 0 5, item 5 6] { active with table := crowded, time := 80000 }
    (t.table.keys.filter (fun k => decide (100 ≤ k)) = [100, 101, 102, 103, 104, 105, 168, 173]) ∧ t.counters.evictions = 2 := by
  decide +kernel

/-- The queue of Table 9-1 before the loss: PRESENCE, RESULT 86, RESULT 87, REPLY, MEASURE 41. The MEASURE is begun. -/
theorem test_queue_order :
    let r := fun n : Count => frameOf (.result (.cadence n) [item 0 1])
    let s := State.withQueue active [frameOf (.presence said), r 86, r 87, frameOf (.reply 1 0 true []), frameOf (.measure 41 1 [0])]
    (after .txFrameStart s).bus.queue.map QueuedFrame.onLine = [false, false, false, false, true] := by decide +kernel

/-- Table 9-1: the loss costs the MEASURE no attempt, the mismatch costs it one. -/
theorem test_loss_and_error :
    let s := State.withQueue active [sending (.measure 41 1 [0])]
    ((after .arbitrationLoss s).bus.queue.map QueuedFrame.attempts = [0]) ∧
    ((after .transmitError s).bus.queue.map QueuedFrame.attempts = [1]) ∧ (after .transmitError s).bus.errors = 1 := by decide +kernel

/-- Table 11-3: with two queries waiting, tag 7 is refused BUSY and tag 8 (group 9) BAD_REQUEST. -/
theorem test_query_refusals :
    let q := fun t : Tag => ({ asker := 20, tag := t, kind := 0, arg := .absent } : PendingQuery)
    let s := { State.withQueue active [frameOf (.reply 1 0 true []), frameOf (.reply 2 0 true [])] with queries := [q 5, q 6] }
    ((after (.queryWatch 20 3 7 (.one 3)) s).bus.queue.getLast?.map (fun f => f.frame.body) = some (.refuse .query 4 7)) ∧
    ((after (.queryGroup 20 3 8 (.one 9)) s).bus.queue.getLast?.map (fun f => f.frame.body) = some (.refuse .query 3 8)) := by
  decide +kernel

/-- The first alert after a reset carries sequence 1 (R102). -/
theorem test_first_alert :
    let s := station (cfgOf [watch]) .active
    (after (.rxResult 5 31 (.cadence 2) [item 1 2000]) s).alerts.queue.map (fun r => (r.sequence, r.zone)) = [(1, .above)] := by
  decide +kernel

/-- The first pending entry after a reset carries tag 1 (R125). -/
theorem test_first_request :
    let s := { station cfg .active with table := [(41, entry true 900 0)] }
    (after (.freshnessExpiry { station := 5, channel := 1 }) s).requester.pending.map (fun e => (e.target, e.tag)) = [(5, 1)] := by
  decide +kernel

/-- A PRESENCE that carries JOINING takes its sender out of the asserter maps and releases ALA (R110, R117). -/
theorem test_restart_releases_line :
    let s := after (.rxAlert 5 31 alert) active
    s.alerts.ala = true ∧ (after (.rxPresence 5 31 { said with active := false }) s).alerts.ala = false := by decide +kernel

/-- The third conflict ends in FAULT and asserts FAULTN (R172, R174). -/
theorem test_third_conflict :
    let s := { active with station := { active.station with conflicts := 2 } }
    (after (.rxSweep 3 31 4) s).station.mode = .fault ∧ (after (.rxSweep 3 31 4) s).station.faultn = .low := by decide +kernel

/-- The first conflict silences station 3 for 60 ms (R172: its address times 20 ms). -/
theorem test_first_conflict : (after (.rxSweep 3 31 4) active).station.release = some 60 := by decide +kernel

/-- A line reset keeps the last fault code, a power-on reset does not (R165). -/
theorem test_resets :
    let s := { State.reset with station := { State.reset.station with mode := .fault, lastFault := some .imageCheck } }
    (after .lineReset s).station.lastFault = some .imageCheck ∧ (after .lineReset s).station.startCause = .line ∧
    (after .powerOnReset s).station.lastFault = none := by decide +kernel

/-- A preempted job is suspended with its progress, and the TRIGGER job starts (R18). -/
theorem test_preemption :
    let s := { active with converter := { Converter.empty with
      running := some (newJob 3 .one (.sweep 7)), trigger := some (newJob 1 .one (.trigger 2)) } }
    (after (.channelCompletion 5 0 0 0) s).converter.running = some (newJob 1 .one (.trigger 2)) ∧
    (after (.channelCompletion 5 0 0 0) s).converter.suspended.map (fun j => j.progress) = some [item 0 5] := by decide +kernel

/-- Station 3 reports last: its tally closes COMPLETE (Table 3-3, the last row). -/
theorem test_tally_completes :
    let t : Tally := { number := 40, state := .opened, expected := 0x228, reported := 0x220, extra := 0 }
    let s := { active with
      sweeps := { SweepUnit.empty with last := some 40, current := some t, deadline := some 50 }
      converter := { Converter.empty with running := some (newJob 1 .one (.sweep 40)) } }
    (after (.channelCompletion 5 0 0 0) s).sweeps.current = some { t with state := .complete, reported := 0x228 } := by decide +kernel

/-- While the station's SWEEP (key 35) is on the line a MEASURE of station 5 (key 37) is not received, and an ACK of station 20 (key 20) is:
it has won the line (R148, R149). -/
theorem test_line_is_taken :
    let s := State.withQueue active [sending (.sweep 41)]
    after (.rxMeasure 5 3 1 1 [0]) s = s ∧ (after (.rxAck 20 3 9) s).counters.unmatchedAcks = 1 := by decide +kernel

/-- RSTN is low after a line reset, and cannot be driven low again. -/
theorem test_line_reset_once :
    let s := after .lineReset State.reset
    s.station.startCause = .line ∧ after .lineReset (after .powerOnReset s) = after .powerOnReset s := by decide +kernel

/-- The threshold and candidate fields of a WATCH reply: the watch's image bytes are a LEVEL watch of key 41 with high threshold 2000 and
persistence 3, in zone INSIDE with the candidate ABOVE at count 2 (Table 12-3, Table 12-5). A negative threshold, 8000h and a count of 4
are out of range (Table 5-1, Table 5-2). -/
theorem test_watch_reply_ranges :
    let reply := fun (hi lo count : Byte) => replyInRange 3 false
      ([0, 0x50, 41, 0, hi, lo, 0, 0, 20, 3, 255, 0x1E, count, 0, 0, 0x07, 0xCF] : List Byte)
    reply 0x07 0xD0 2 = true ∧ reply 0xFF 0xFF 2 = false ∧ reply 0x80 0x00 2 = false ∧ reply 0x07 0xD0 4 = false := by decide +kernel

/-- The loss of station 5 with channel 5 asked for and channels 2 and 7 FRESH: marks 2, 5, 7 where the value table takes it first, its
notices having entered the wanted set, and 5, 2, 7 where the requester takes it first (R122, R133). Watches 0, 1, 2 name channels 7, 5, 2. -/
theorem test_loss_orders :
    let on := fun c : Channel => { watch with sourceA := { station := 5, channel := c } }
    let s := { station (cfgOf [on 7, on 5, on 2]) .active with
      table := [(42, entry true 900 400), (45, entry true 900 400), (47, entry true 900 400)]
      roster := { active.roster with peers := [(5, { slot with state := .lost, quiet := none, gone := none })] }
      requester := { Requester.empty with pending := [{ asked 7 1 (.sent 9) with target := 5, channels := 0x20 }] } }
    (requesterLost 5 (tableLost staleNoticeBeforeLoss 5 s)).alerts.queue.map AlertRecord.watch = [2, 1, 0] ∧
    (tableLost staleNotice 5 (requesterLost 5 s)).alerts.queue.map AlertRecord.watch = [1, 2, 0] := by decide +kernel

/-- A RESULT of a LOST peer ends its item's hold-off; taken by the requester before the roster, only the other key is asked for (R123). -/
theorem test_answer_before_return :
    let s := { active with
      roster := { active.roster with peers := [(5, { slot with state := .lost, quiet := none, gone := none })] }
      requester := { Requester.empty with holdOffs := [(41, 3000), (42, 3000)] } }
    let f : Frame := { src := 5, dst := 31, body := .result (.cadence 2) [item 1 7] }
    (hear 5 f.body (dispatchRequester f s)).requester.pending.map PendingEntry.channels = [0x04] := by decide +kernel

/-! ## Witnesses: states and operands that meet the hypotheses of each statement, clause by clause -/

/-- The station in another station state. -/
def State.at (s : State) (m : Mode) : State := { s with station := { s.station with mode := m } }

theorem witness_StepRunsFrontCommand : ({ State.reset with pending := [.rstnHigh, .lineReset] } : State).pending = .rstnHigh :: [.lineReset] := by
  decide

theorem witness_ResetsReturnEveryBlock :
    active.station.rstnHigh = true ∧ (after .lineReset active).station.rstnHigh = false := by decide +kernel

theorem witness_LoadStartsAndReadsBytes :
    State.reset.station.mode = .unloaded ∧
    (let s := State.at State.reset .loading
     s.station.mode = .loading ∧ (s.station.reading ++ [0xA7]).length < 2) ∧
    (let s := { State.reset with station := { State.reset.station with mode := .loading, reading := [0xA7] } }
     s.station.mode = .loading ∧ (s.station.reading ++ [31]).length < imageByte (s.station.reading ++ [31]) 1) := by decide +kernel

theorem witness_FailedLoadEntersFault :
    loading.station.mode = .loading ∧ 2 ≤ (loading.station.reading ++ [0xE5]).length ∧
    imageByte (loading.station.reading ++ [0xE5]) 1 ≤ (loading.station.reading ++ [0xE5]).length ∧
    imageFault (loading.station.reading ++ [0xE5]) = some .imageCheck ∧ imageFault [0xA6, 31] = some .imageAbsent := by decide +kernel

theorem witness_SoundImageLoads :
    loading.station.mode = .loading ∧ loading.bus.queue = [] ∧ loading.alerts.queue = [] ∧
    2 ≤ (loading.station.reading ++ [0xE4]).length ∧
    imageByte (loading.station.reading ++ [0xE4]) 1 ≤ (loading.station.reading ++ [0xE4]).length ∧
    imageFault (loading.station.reading ++ [0xE4]) = none := by decide +kernel

theorem witness_SoundImageSettingsAreConsistent : imageFault (imageHead ++ [0xE4]) = none := by decide +kernel

theorem witness_TimeAdvanceCountsEveryTimer : State.reset.works = false ∧ active.works = true := by decide +kernel

theorem witness_TrgChangeFollowsDebounce :
    (let s := station { cfg with debounce := 0, edge := .falling } .active
     s.works = true ∧ s.trigger.accepted = some .low ∧ s.trigger.line ≠ .high ∧ s.cfg.debounce = 0 ∧ isEdge s.cfg.edge .high = false) ∧
    (active.works = true ∧ active.trigger.accepted = some .low ∧ active.trigger.line ≠ .high ∧ active.cfg.debounce ≠ 0 ∧
      active.trigger.debounce = none) ∧
    (let s := { active with trigger := { line := .high, accepted := some .low, debounce := some 4, count := 0 } }
     s.works = true ∧ s.trigger.accepted = some .low ∧ s.trigger.line ≠ .low ∧ s.cfg.debounce ≠ 0 ∧ s.trigger.debounce ≠ none) := by
  decide +kernel

/-- A TRIGGER job. -/
def triggerJob : Job := newJob 3 .four (.trigger 1)

theorem witness_AcceptedEdgeStartsTriggerJob_at_once :
    let s := station { cfg with debounce := 0 } .active
    let busy := { s with converter := { Converter.empty with running := some triggerJob } }
    s.works = true ∧ s.trigger.accepted = some .low ∧ isEdge s.cfg.edge .high = true ∧ s.cfg.debounce = 0 ∧ s.trigger.line ≠ .high ∧
    s.converter = Converter.empty ∧ isEdge busy.cfg.edge .high = true ∧ busy.cfg.debounce = 0 ∧ busy.trigger.line ≠ .high ∧
    triggerRuns busy.converter = true ∧
    (let c := { Converter.empty with running := some (newJob 2 .one (.cadence 1)) }
     c.trigger = none ∧ triggerRuns c = false ∧ triggerHeld c = false) := by decide +kernel

theorem witness_AcceptedEdgeStartsTriggerJob_debounced :
    let s := { active with trigger := { line := .high, accepted := some .low, debounce := some 0, count := 65535 } }
    let held := { s with converter := { Converter.empty with hold := some { cause := .trigger 1, items := [] } } }
    let fall := { station { cfg with edge := .falling } .active with trigger := s.trigger }
    s.works = true ∧ s.trigger.accepted = some .low ∧ s.trigger.debounce = some 0 ∧ isEdge s.cfg.edge .high = true ∧
    s.converter = Converter.empty ∧ triggerHeld held.converter = true ∧ isEdge fall.cfg.edge .high = false ∧
    fall.trigger.debounce = some 0 := by decide +kernel

theorem witness_CadenceTickOffersOrSkips :
    let s := { active with cadence := { timer := some 0, count := 65535 } }
    let full := { s with converter := { Converter.empty with cadence := some (newJob 2 .one (.cadence 1)), running := some triggerJob } }
    let none' := { station { cfg with cadenceSet := 0 } .active with cadence := s.cadence }
    s.works = true ∧ s.cadence.timer = some 0 ∧ s.cfg.cadenceSet ≠ 0 ∧ s.converter = Converter.empty ∧
    ({ Converter.empty with running := some triggerJob } : Converter).cadence = none ∧
    full.converter.cadence.isSome = true ∧ none'.cfg.cadenceSet = 0 ∧ none'.cadence.timer = some 0 := by decide +kernel

theorem witness_ChannelCompletionContinuesOrPreempts :
    let j := newJob 3 .one (.cadence 7)
    let s := { active with converter := { Converter.empty with running := some j } }
    let t := { active with converter := { Converter.empty with running := some j, trigger := some triggerJob } }
    s.converter.running = some j ∧ Job.nextChannel j = some 0 ∧ Job.nextChannel { j with progress := [item 0 4095] } = some 1 ∧
    s.converter.trigger = none ∧ t.converter.trigger = some triggerJob ∧ Job.cls j ≠ .trigger := by decide +kernel

theorem witness_LastChannelPublishesResult :
    let j := newJob 1 .one (.cadence 7)
    let s := { active with converter := { Converter.empty with running := some j, suspended := some triggerJob } }
    let full := State.withQueue s [frameOf (.result (.cadence 5) [item 0 1]), frameOf (.result (.cadence 6) [item 0 1])]
    s.cfg.watches = [] ∧ s.converter.running = some j ∧ Job.cls j ≠ .sweep ∧
    Job.nextChannel j = some 0 ∧ Job.nextChannel { j with progress := [item 0 9] } = none ∧ KeysHeld s s.own [item 0 9] ∧
    held .converter s.bus.queue < 2 ∧ 2 ≤ held .converter full.bus.queue ∧ KeysHeld full full.own [item 0 9] := by decide +kernel

theorem witness_LastChannelPublishesResult_sweep :
    let j := newJob 1 .one (.sweep 40)
    let t : Tally := { number := 40, state := .opened, expected := 0x228, reported := 0x220, extra := 0 }
    let s := { active with
      converter := { Converter.empty with running := some j }, sweeps := { SweepUnit.empty with last := some 40, current := some t } }
    j.cause = .sweep 40 ∧ KeysHeld s s.own [item 0 9] ∧ s.sweeps.current = some t ∧ t.state = .opened ∧ t.number = 40 ∧
    setHas t.expected s.own.toNat = true ∧ setHas (0x220 : StationSet) s.own.toNat = false ∧ (39 : Count) ≠ t.number ∧
    (State.at s .silenced).station.mode ≠ .active := by decide +kernel

theorem witness_MeasureIsJudgedInOrder :
    let full := { active with bus := { active.bus with refusals := List.replicate 4 ⟨5, .measure, 1, 0⟩ } }
    FromPeer active 5 (.measure 1 4 [7]) ∧ active.station.mode = .active ∧ isStation active.own.toNat = true ∧
    FromPeer full 5 (.measure 1 4 [7]) ∧ 4 ≤ full.bus.refusals.length := by decide +kernel

theorem witness_UnservedRequestsAreCounted :
    let s := State.at active .silenced
    FromPeer s 30 (.measure 1 1 [0]) ∧ FromPeer s 30 (.query 0 1 .absent) ∧ s.station.mode ≠ .active ∧ isStation s.own.toNat = true ∧
    loading.station.mode = .loading ∧ isStation (1 : Addr).toNat = true ∧ onLineFrames loading.bus = [] ∧
    State.reset.station.mode = .unloaded ∧ State.reset.station.rstnHigh = true ∧ onLineFrames State.reset.bus = [] := by
  decide +kernel

theorem witness_SweepNumbersCompareSerially :
    ((2 : Count).toNat + 65536 - (65534 : Count).toNat) % 65536 = 4 ∧
    ((32808 : Count).toNat + 65536 - (40 : Count).toNat) % 65536 = 32768 := by decide

/-- The station with L 40 and its tally OPEN for stations 3, 5 and 9. -/
def tallying : State := { active with
  sweeps := { last := some 40, call := some 0, previous := none, deadline := some 0,
              current := some { number := 40, state := .opened, expected := 0x228, reported := 0, extra := 0 } } }

theorem witness_SweepIsAcceptedOrStale :
    FromPeer tallying 5 (.sweep 41) ∧ tallying.sweeps.last = some 40 ∧ newer 40 40 = false ∧ newer 32808 40 = false ∧ newer 32807 40 = true ∧
    tallying.roster.peers.find (5 : Addr).toNat = some slot ∧ slot.state = .present ∧ tallying.cfg.watches = [] := by decide +kernel

theorem witness_CallTimerCalls :
    tallying.station.mode = .active ∧ tallying.sweeps.call = some 0 ∧ held .sweepUnit tallying.bus.queue = 0 ∧
    1 ≤ held .sweepUnit (State.withQueue tallying [frameOf (.sweep 41)]).bus.queue := by decide +kernel

/-- The watch of station 5's channel 1 on sweeps. -/
def sweepWatch : WatchConfig := { watch with moment := .onSweep }

theorem witness_DeadlineClosesIncomplete :
    let s := { station (cfgOf [watch, sweepWatch]) .joining with sweeps := tallying.sweeps }
    s.works = true ∧ s.sweeps.deadline = some 0 ∧ (openTally s).isSome = true ∧ s.watches.length = s.cfg.watches.length ∧
    (∀ p ∈ s.table, p.2.sweep = none) := by decide +kernel

theorem witness_ResultUpdatesTable :
    let s := State.withPending active [asked 7 1 (.sent 15)]
    FromPeer s 5 (.result (.measure 3 7) [item 1 4095]) ∧ Cause.inRange (.measure 3 7) = true ∧ Cause.cls (.measure 3 7) ≠ .sweep ∧
    s.cfg.watches = [] ∧ RequesterQuiet s ∧ KeysHeld s 5 [item 1 4095] ∧ s.table.find (keyIx 5 7) = none ∧ s.table.length < 48 := by decide +kernel

theorem witness_SweepResultIsReported :
    FromPeer tallying 5 (.result (.sweep 41) [item 1 0]) ∧ acceptable 41 tallying.sweeps.last = true ∧ acceptable 40 tallying.sweeps.last = false ∧
    tallying.cfg.watches = [] ∧ RequesterQuiet tallying ∧ KeysHeld tallying 5 [item 1 0] ∧
    setHas (0x228 : StationSet) (5 : Addr).toNat = true ∧ setHas (0x208 : StationSet) (5 : Addr).toNat = false ∧
    acceptable 39 tallying.sweeps.last = false ∧ FromPeer tallying 30 (.result (.sweep 41) [item 1 0]) ∧
    tallying.roster.peers.find (30 : Addr).toNat = none ∧ (5, slot) ∈ tallying.roster.peers ∧ slot.state = .present ∧
    slot.info = some said ∧ said.participation = true ∧ slot.info = knownInfo tallying 5 := by decide +kernel

theorem witness_EvictionVictimIsOldestCached :
    let s := { active with table := crowded, time := 80000 }
    FromPeer s 21 (.result (.cadence 940) [item 0 5]) ∧ Cause.cls (.cadence 940) ≠ .sweep ∧ s.cfg.watches = [] ∧ RequesterQuiet s ∧ Map.wf s.table ∧ s.table.length = 48 ∧
    s.table.find (keyIx 21 0) = none ∧ s.table.find 161 = some (entry false 61200 400) ∧
    (∀ p ∈ s.table, p.2.pinned = false → entryAge s.time p.2 < entryAge s.time (entry false 61200 400) ∨
      (entryAge s.time p.2 = entryAge s.time (entry false 61200 400) ∧ 161 ≤ p.1)) := by decide +kernel

theorem witness_EvictionVictimIsOldestCached_in_batch :
    let t : Map Entry := [(161, entry false 61200 400), (163, entry false 61200 400)]
    (∀ p ∈ t, p.2.pinned = false → p.1 ∈ [161, 163]) ∧ (161, entry false 61200 400) ∈ t ∧ Map.wf t := by decide +kernel

theorem witness_FreshnessExpiryMakesStale :
    let s := { active with table := [(24, entry true 900 0), (72, entry false 900 0)] }
    s.works = true ∧ s.table.find (Key.ix { station := 3, channel := 0 }) = some (entry true 900 0) ∧ s.own = 3 ∧
    s.table.find (Key.ix { station := 9, channel := 0 }) = some (entry false 900 0) := by decide +kernel

theorem witness_StaleWatchedKeyIsRequested :
    let s := { active with
      table := [(41, entry true 900 0)], requester := { Requester.empty with holdOffs := [(42, 0)], tag := 255 } }
    s.station.mode = .active ∧ holdsLost s 5 = false ∧ s.requester.wanted = [] ∧ s.requester.pending = [] ∧
    held .requester s.bus.queue = 0 ∧ s.table.find (Key.ix { station := 5, channel := 1 }) = some (entry true 900 0) ∧
    (5 : Addr) ≠ s.own ∧ s.requester.holdOffs.find (Key.ix { station := 5, channel := 1 }) = none ∧
    s.requester.holdOffs.find (Key.ix { station := 5, channel := 2 }) = some 0 := by decide +kernel

theorem witness_AttemptTimersRetry :
    let s := State.withPending active [asked 6 1 (.sent 9), asked 7 2 (.sent 0), asked 8 2 (.backingOff 0)]
    s.station.mode = .active ∧ RequesterQuiet s ∧ Awaits s [asked 6 1 (.sent 9)] (asked 7 2 (.sent 0)) [asked 8 2 (.backingOff 0)] ∧
    Awaits s [asked 6 1 (.sent 9), asked 7 2 (.sent 0)] (asked 8 2 (.backingOff 0)) [] ∧ held .requester s.bus.queue = 0 ∧
    1 ≤ held .requester (State.withQueue s [frameOf (.measure 6 1 [0])]).bus.queue := by decide +kernel

theorem witness_ThirdAttemptGivesUp :
    let s := State.withPending active [asked 7 3 (.sent 0), asked 8 3 (.backingOff 0)]
    s.cfg.watches = [] ∧ RequesterQuiet s ∧ Awaits s [] (asked 7 3 (.sent 0)) [asked 8 3 (.backingOff 0)] ∧
    Awaits s [asked 7 3 (.sent 0)] (asked 8 3 (.backingOff 0)) [] := by decide +kernel

theorem witness_RefusalsActByReason :
    let s := State.withPending active [asked 6 1 .queued, asked 7 2 (.sent 0), { asked 8 1 (.sent 3) with duplicateUsed := true }]
    FromPeer s 9 (.refuse .measure 0 7) ∧ isStation s.own.toNat = true ∧ RequesterQuiet s ∧ s.cfg.watches = [] ∧
    Awaits s [asked 6 1 .queued] (asked 7 2 (.sent 0)) [{ asked 8 1 (.sent 3) with duplicateUsed := true }] ∧
    Awaits s [] (asked 6 1 .queued) [asked 7 2 (.sent 0), { asked 8 1 (.sent 3) with duplicateUsed := true }] ∧
    Awaits s [asked 6 1 .queued, asked 7 2 (.sent 0)] { asked 8 1 (.sent 3) with duplicateUsed := true } [] ∧
    (∀ x ∈ s.requester.pending, x.tag ≠ 9 ∨ x.target ≠ 9) := by decide +kernel

theorem witness_TagAndTargetAreChosenInTurn :
    let s := { active with requester := { Requester.empty with wanted := [(5, 1), (9, 2)], served := some 5 } }
    ([254, 255, 0, 1] : List Tag).length ≤ 4 ∧ Map.wf s.requester.wanted ∧ candidates s = [5, 9] ∧ nextTarget s = some 9 := by
  decide +kernel

theorem witness_ZoneFunctionHasHysteresis : (-80 : Int) + (20 : Nat) < 120 ∧ difference.high = some 120 ∧ difference.low = some (-80) := by
  decide

theorem witness_ZoneConfirmsAfterPersistence :
    let c := { difference with persistence := 2 }
    zoneOf c .inside 0 = .inside ∧ zoneOf c .inside 120 ≠ .inside ∧ c.persistence = 2 := by decide

/-- The station with the LEVEL watch, not ACTIVE. -/
def watching : State := station (cfgOf [watch]) .silenced

theorem witness_ThresholdCrossingRaisesAlert :
    let raised : WatchRun := { zone := .above, candidate := none, missed := 0, last := some 2000 }
    FromPeer watching 5 (.result (.cadence 2) [item 1 2000]) ∧ watching.station.mode ≠ .active ∧ RequesterQuiet watching ∧ watching.cfg.watches = [watch] ∧
    watching.watches = [WatchRun.initial] ∧ watching.table.find (keyIx 5 1) = some (entry true 900 400) ∧
    zoneOf watch WatchRun.initial.zone 2000 ≠ WatchRun.initial.zone ∧ alarming watch.crossing (zoneOf watch .unknown 2000) = true ∧
    zoneOf watch raised.zone 1979 ≠ raised.zone ∧ alarming watch.crossing raised.zone = true ∧
    alarming watch.crossing (zoneOf watch raised.zone 1979) = false := by decide +kernel

/-- A record that stands while its watch confirms an alert zone again: the other side under BOTH. -/
theorem witness_ThresholdCrossingRaisesAlert_swing :
    let both := { watch with low := some 100, crossing := .both }
    let s := State.withRecord (station (cfgOf [both]) .silenced) (record 7 true true false none)
    FromPeer s 5 (.result (.cadence 2) [item 1 100]) ∧ RequesterQuiet s ∧ s.alerts.queue = [record 7 true true false none] ∧
    zoneOf both .above 100 ≠ .above ∧ alarming both.crossing (zoneOf both .above 100) = true := by decide +kernel

theorem witness_RepeatAnnouncesUnacknowledged :
    let s := { active with alerts := { active.alerts with timer := some 0, queue := [record 65535 true false false none] } }
    s.station.mode = .active ∧ s.alerts.timer = some 0 ∧ s.alerts.finals = [] ∧ held .alertUnit s.bus.queue < 2 ∧
    2 ≤ held .alertUnit (State.withQueue s [frameOf (.alert alert), frameOf (.alert alert)]).bus.queue := by decide +kernel

theorem witness_ReceivedAlertFeedsGroup :
    FromPeer active 5 (.alert alert) ∧ signedWordOk alert.value = true ∧ alert.group = some 1 ∧ (active.alerts.groups[1]?).isSome = true ∧
    signedWordOk 0x8000 = true := by decide +kernel

theorem witness_AckActsOnItsRecord :
    let r := record 9 true false false none
    let cleared := record 9 false false true (some alert)
    let s := State.withRecord active r
    let t := State.withRecord active cleared
    FromPeer s 30 (.ack 9) ∧ isStation s.own.toNat = true ∧ NothingToAnnounce s ∧ NothingToAnnounce t ∧ s.alerts.queue = [] ++ r :: [] ∧
    r.causes ≠ { threshold := false, sourceLost := false } ∧ cleared.causes = { threshold := false, sourceLost := false } ∧
    (∀ x ∈ s.alerts.queue, x.sequence ≠ 10) := by decide +kernel

theorem witness_PresenceUpdatesSlot :
    let s := { active with roster := { active.roster with peers := [(5, { slot with quiet := some 0 })] } }
    FromPeer s 30 (.presence said) ∧ ({ said with alerts := 16 } : Presence).alerts.toNat ≤ 16 ∧ said.active = true ∧ s.works = true ∧
    s.roster.peers.find (5 : Addr).toNat = some { slot with quiet := some 0 } ∧ FromPeer s 5 (.ack 9) ∧
    (Instr.rxAck 5 9 9).frame = some ⟨5, 9, .ack 9⟩ ∧ Frame.wellFormed ⟨5, 9, .ack 9⟩ = true ∧ (9 : Addr) ≠ s.own := by decide +kernel

/-- Station 5 LOST, the hold-off of its channel 1 running. -/
theorem witness_PresenceUpdatesSlot_lost :
    let s := { active with
      roster := { active.roster with peers := [(5, { slot with state := .lost, quiet := none, gone := none })] }
      requester := { Requester.empty with holdOffs := [(41, 3000), (73, 10)] } }
    Reaches s 5 (.ack 9) ∧ Reaches s 5 (.presence said) ∧ holdsLost s (5 : Addr).toNat = true ∧
    (Instr.rxPresence 5 31 said).frame = some ⟨5, 31, .presence said⟩ ∧ Frame.wellFormed ⟨5, 31, .presence said⟩ = true ∧
    (s.requester.holdOffs.find 41).isSome = true ∧ ixStation 41 = (5 : Addr).toNat := by decide +kernel

theorem witness_RestartedPeerIsReannounced :
    let s := State.withQueue active [frameOf (.alert alert), frameOf (.alert alert)]
    let t := State.withPending active [asked 7 2 (.sent 9)]
    FromPeer s 5 (.presence { said with active := false }) ∧ (∀ e ∈ s.requester.pending, e.target ≠ 5) ∧
    2 ≤ held .alertUnit s.bus.queue ∧ (State.at s .silenced).station.mode ≠ .active ∧
    (let r := record 9 true false false none
     let u := State.withRecord active r
     u.station.mode = .active ∧ held .alertUnit u.bus.queue < 2 ∧ u.alerts.finals = [] ∧
     u.alerts.queue.map (fun r => if r.causes = { threshold := false, sourceLost := false } then r else { r with announce := true }) =
       [] ++ { r with announce := true } :: []) ∧
    FromPeer t 9 (.presence { said with active := false }) ∧
    Awaits t [] (asked 7 2 (.sent 9)) [] ∧ RequesterQuiet t := by decide +kernel

theorem witness_LostPeerLeavesEveryBlock :
    let s := { tallying with
      roster := { active.roster with peers := [(5, { slot with gone := some 0 })] }
      requester := { Requester.empty with wanted := [(5, 1), (30, 1)], pending := [{ asked 7 1 (.sent 9) with target := 5 }] } }
    s.works = true ∧ s.roster.peers.find (5 : Addr).toNat = some { slot with gone := some 0 } ∧
    (∀ w ∈ s.requester.wanted, w.1 < 32) ∧ s.station.mode = .active ∧ (State.at s .silenced).station.mode ≠ .active ∧
    (State.at s .silenced).works = true ∧ s.requester.wanted.find (5 : Addr).toNat = some 1 ∧ (5 : Addr) ≠ s.own ∧
    s.requester.holdOffs.find 41 = none ∧ (41, entry true 900 400) ∈ s.table := by decide +kernel

theorem witness_PresenceTimerSendsPresence :
    let s := { active with roster := { active.roster with presence := some 0 } }
    s.station.mode = .active ∧ s.roster.presence = some 0 ∧ held .roster s.bus.queue = 0 ∧
    Body.producer (frameOf (.presence said)).frame.body = some .roster ∧ (frameOf (.presence said)).onLine = false ∧
    (sending (.presence said)).onLine = true := by decide +kernel

theorem witness_FrameStartPicksLowestClass :
    let q := frameOf (.measure 41 1 [0])
    let s := State.withQueue active [frameOf (.presence said), q, frameOf (.sweep 41)]
    s.station.mode = .active ∧ s.bus.flushed = none ∧ s.bus.queue = [frameOf (.presence said)] ++ q :: [frameOf (.sweep 41)] ∧
    (∀ x ∈ s.bus.queue, x.onLine = false) ∧ (Body.cls q.frame.body).toNat < (Body.cls (.presence said)).toNat ∧
    (Body.cls q.frame.body).toNat ≤ (Body.cls (.sweep 41)).toNat ∧
    onLineFrames (State.withQueue active [sending (.sweep 41)]).bus ≠ [] ∧
    onLineFrames { s.bus with flushed := some (sending (.sweep 41)) } ≠ [] := by decide +kernel

theorem witness_FramesReturnToTheirPlace :
    let q := { sending (.sweep 41) with attempts := 2 }
    let p := sending (.presence said)
    let s := { State.withQueue active [q] with bus := { (State.withQueue active [q]).bus with errors := 14 } }
    let w := State.withQueue active [{ q with withdrawn := true }]
    let t := { State.withQueue active [p] with roster := { active.roster with due := true } }
    OnLine s [] q [] ∧ q.withdrawn = false ∧ Body.producer q.frame.body ≠ some .roster ∧ s.bus.errors < 15 ∧ q.attempts < 3 ∧
    OnLine w [] { q with withdrawn := true } [] ∧ OnLine t [] p [] ∧ Body.producer p.frame.body = some .roster ∧ t.roster.due = true := by
  decide +kernel

theorem witness_FourthErrorDiscards :
    let q := { sending (.sweep 41) with attempts := 3 }
    let s := State.withQueue active [q]
    OnLine s [] q [] ∧ q.withdrawn = false ∧ s.bus.errors < 15 ∧ Body.producer q.frame.body = some .sweepUnit ∧
    s.converter.hold = none ∧ s.bus.refusals = [] ∧ s.queries = [] ∧ s.roster.due = false := by decide +kernel

theorem witness_FourthErrorDiscards_waiting :
    let result : Body := .result (.cadence 5) [item 0 1]
    let refusal : Body := .refuse .measure 0 1
    let q := fun body => { sending body with attempts := 3 }
    let s := { State.withQueue active [q result] with
      converter := { Converter.empty with hold := some { cause := .cadence 6, items := [item 0 2] } } }
    let t := { active with bus := { active.bus with queue := [q refusal], refusals := [⟨5, .measure, 1, 0⟩] } }
    let u := { State.withQueue active [q (.presence said)] with roster := { active.roster with due := true } }
    (OnLine s [] (q result) [] ∧ (q result).withdrawn = false ∧ s.bus.errors < 15 ∧ Body.producer result = some .converter ∧
      s.station.mode = .active ∧ held .converter ([] ++ []) < 2 ∧ s.converter.hold.isSome = true) ∧
    (OnLine t [] (q refusal) [] ∧ t.bus.errors < 15 ∧ Body.producer refusal = some .refusalList ∧ held .refusalList ([] ++ []) = 0 ∧
      t.bus.refusals = ⟨5, .measure, 1, 0⟩ :: []) ∧
    OnLine u [] (q (.presence said)) [] ∧ u.bus.errors < 15 ∧ Body.producer (.presence said) = some .roster ∧ u.roster.due = true := by
  decide +kernel

theorem witness_FourthErrorDiscards_reply :
    let q := { sending (.reply 1 0 true []) with attempts := 3 }
    let l2 := [frameOf (.reply 2 0 true [])]
    let w : PendingQuery := { asker := 20, tag := 7, kind := 0, arg := .one 1 }
    let s := { State.withQueue active (q :: l2) with queries := [w] }
    OnLine s [] q l2 ∧ q.withdrawn = false ∧ s.bus.errors < 15 ∧ s.station.mode = .active ∧ held .queryService ([] ++ l2) = 1 ∧
    Body.producer q.frame.body = some .queryService := by decide +kernel

theorem witness_FourthErrorDiscards_alert :
    let q := { sending (.alert { alert with watch := 0 }) with attempts := 3 }
    let r := record 9 true false true (some alert)
    let s := State.withRecord (State.withQueue active [q]) r
    OnLine s [] q [] ∧ q.withdrawn = false ∧ q.orphan = false ∧ s.bus.errors < 15 ∧ s.station.mode = .active ∧
    held .alertUnit ([] ++ []) < 2 ∧ s.alerts.finals = [] ∧ s.alerts.queue = [] ++ r :: [] ∧ r.announce = true := by decide +kernel

theorem witness_FourthErrorDiscards_measure :
    let q := { sending (.measure 7 1 [0, 2]) with attempts := 3 }
    let s := State.withPending (State.withQueue active [q]) [asked 7 2 .queued]
    let t := State.withPending (State.withQueue active [q]) [asked 7 3 .queued]
    OnLine s [] q [] ∧ RequesterQuiet s ∧ Awaits s [] (asked 7 2 .queued) [] ∧ s.station.mode = .active ∧
    held .requester ([] ++ []) = 0 ∧ OnLine t [] q [] ∧ RequesterQuiet t ∧ Awaits t [] (asked 7 3 .queued) [] ∧
    t.cfg.watches = [] := by decide +kernel

theorem witness_SixteenthErrorSilences :
    let q := sending (.sweep 41)
    let s := { State.withQueue active [q] with bus := { (State.withQueue active [q]).bus with errors := 15 } }
    OnLine s [] q [] ∧ s.station.mode = .active ∧ 15 ≤ s.bus.errors := by decide +kernel

theorem witness_CompletedFrameFreesItsPlace_held :
    let q := sending (.result (.cadence 6) [item 0 1])
    let r : Finished := { cause := .trigger 6, items := [item 0 1] }
    let s := { State.withQueue active [q, frameOf (.result (.cadence 7) [item 0 1])] with
      converter := { Converter.empty with hold := some r } }
    OnLine s [] q [frameOf (.result (.cadence 7) [item 0 1])] ∧ s.converter.hold = some r ∧ s.station.mode = .active ∧
    held .converter ([] ++ [frameOf (.result (.cadence 7) [item 0 1])]) < 2 ∧ Body.producer q.frame.body = some .converter := by
  decide +kernel

theorem witness_CompletedFrameFreesItsPlace_others :
    let p := sending (.presence said)
    let f := sending (.refuse .query 4 7)
    let y := sending (.reply 6 1 true [])
    let w := sending (.sweep 41)
    let s := { State.withQueue active [f] with bus := { (State.withQueue active [f]).bus with refusals := [⟨5, .measure, 1, 0⟩] } }
    OnLine (State.withQueue active [p]) [] p [] ∧ OnLine s [] f [] ∧ held .refusalList ([] ++ []) = 0 ∧
    OnLine (State.withQueue active [y]) [] y [] ∧ Body.producer y.frame.body = some .queryService ∧
    OnLine (State.withQueue tallying [w]) [] w [] ∧ acceptable 41 tallying.sweeps.last = true := by decide +kernel

theorem witness_CompletedFrameFreesItsPlace_queries :
    let y := sending (.reply 6 1 true [])
    let l2 := [frameOf (.reply 7 1 true [])]
    let w : PendingQuery := { asker := 20, tag := 8, kind := 2, arg := .one 0 }
    let s := { State.withQueue active (y :: l2) with queries := [w] }
    OnLine s [] y l2 ∧ s.queries = w :: [] ∧ s.station.mode = .active ∧ held .queryService ([] ++ l2) = 1 := by decide +kernel

theorem witness_CompletedFrameFreesItsPlace_records :
    let m := sending (.measure 7 1 [0])
    let s := State.withQueue (State.withPending active [asked 7 1 .queued]) [m]
    let a := sending (.alert { alert with watch := 0 })
    let r := record 9 true false true (some alert)
    let t := State.withQueue (State.withRecord active r) [a]
    OnLine s [] m [] ∧ RequesterQuiet s ∧ Awaits s [] (asked 7 1 .queued) [] ∧ OnLine t [] a [] ∧ a.orphan = false ∧
    NothingToAnnounce t ∧ r.changed = false ∧ r.watch = ({ alert with watch := 0 } : Alert).watch.toNat := by decide +kernel

theorem witness_AddressConflictSilencesOrFaults :
    let w := sending (.sweep 41)
    let s := State.withQueue active [w]
    let t := { active with station := { active.station with conflicts := 2 } }
    let key := Frame.key { src := active.own, dst := 31, body := .sweep 4 }
    OnLine s [] w [] ∧ s.station.conflicts < 2 ∧ isStation active.own.toNat = true ∧ 2 ≤ t.station.conflicts ∧ Wins t key ∧
    Wins (State.withQueue active [sending (.presence said)]) key ∧ (State.at active .silenced).station.mode = .silenced := by decide +kernel

theorem witness_DiscardedFramesAreCounted :
    State.reset.station.mode ≠ .fault ∧ State.reset.station.rstnHigh = true ∧
    (Instr.rxAck 31 3 1).frame = some ⟨31, 3, .ack 1⟩ ∧ Frame.wellFormed ⟨31, 3, .ack 1⟩ = false ∧
    Wins State.reset (Frame.key ⟨31, 3, .ack 1⟩) ∧ FromPeer active 5 (.reply 1 4 false [1]) ∧
    Frame.wellFormed { src := 5, dst := active.own, body := .reply 1 4 false [1] } = true := by decide +kernel

/-- On the line: a SWEEP of station 3, key 35. An ACK of station 20 wins (byte 0 is 28h, key 20), a RESULT of station 5 (8Ah, key 69) does not. -/
theorem witness_DiscardedFramesAreCounted_line :
    let s := State.withQueue active [sending (.sweep 41)]
    (∀ q ∈ onLineFrames s.bus, ∃ b, ([0x28] : List Byte)[0]? = some b ∧ b.toNat / 2 < Frame.key q.frame) ∧
    sending (.sweep 41) ∈ onLineFrames s.bus ∧
    (∀ b, ([0x8A] : List Byte)[0]? = some b → Frame.key (sending (.sweep 41)).frame ≤ b.toNat / 2) ∧
    Frame.key (sending (.sweep 41)).frame ≤ Frame.key ⟨5, 3, .measure 1 1 [0]⟩ := by
  refine ⟨?_, ?_, ?_, ?_⟩
  · intro q hq
    have : q = sending (.sweep 41) := by simpa [State.withQueue, onLineFrames, sending, active, station, State.reset, BusUnit.empty] using hq
    exact ⟨0x28, rfl, by subst this; decide⟩
  · decide +kernel
  · intro b hb
    obtain rfl : 0x8A = b := by simpa using hb
    decide
  · decide

theorem witness_LifeTimersMoveTheStation :
    let s := { State.at active .joining with station := { (State.at active .joining).station with joinWait := some 0 } }
    let r := { State.at active .silenced with station := { (State.at active .silenced).station with release := some 0 } }
    let c := { active with station := { active.station with clearing := some 0, conflicts := 2 } }
    s.station.mode = .joining ∧ s.station.joinWait = some 0 ∧ NothingToAnnounce s ∧ RequesterQuiet s ∧
    (∀ p ∈ s.table, p.2.pinned = true → ixStation p.1 ≠ s.own.toNat → p.2.state = .fresh) ∧ r.station.mode = .silenced ∧
    r.station.release = some 0 ∧ r.bus.queue = [] ∧ c.station.mode = .active ∧ c.station.clearing = some 0 := by decide +kernel

theorem witness_QueriesAreAnswered :
    FromPeer active 5 (.query 0 1 .absent) ∧ active.station.mode = .active ∧ isStation active.own.toNat = true ∧ active.queries = [] ∧
    held .queryService active.bus.queue < 2 ∧ argSuits 0 .absent = true ∧ argSuits 0 (.one 2) = true ∧ argSuits 1 (.two 30 7) = true ∧
    argSuits 2 (.one 15) = true ∧ argSuits 3 (.one 15) = true ∧ argSuits 4 (.one 1) = true ∧ argSuits 5 (.one 7) = true ∧
    argSuits 6 (.one 30) = true ∧ QueryArg.one 30 ≠ .one ((5 : Addr).setWidth 8) ∧ (active.alerts.groups[7]?).isSome = true := by decide +kernel

theorem witness_UnsuitableQueriesAreRefused :
    let q : PendingQuery := { asker := 20, tag := 5, kind := 0, arg := .absent }
    let s := { active with queries := [q, q] }
    FromPeer s 5 (.query 7 1 .absent) ∧ s.station.mode = .active ∧ isStation s.own.toNat = true ∧ argSuits 7 .absent = false ∧ argSuits 5 (.one 8) = false ∧ argSuits 0 .absent = true ∧
    2 ≤ s.queries.length := by decide +kernel

theorem witness_ReplyFitsPayload : (replyContent 5 (.one 7) active).isSome = true := by decide +kernel

theorem witness_FrameBytesReadBack : Body.lengthOk (.measure 7 1 [0, 1, 2, 3, 4, 5, 6, 7]) = true ∧
    Body.lengthOk (.result (.cadence 1) [item 0 1]) = true ∧ Body.lengthOk (.reply 1 5 false (List.replicate 30 0)) = true := by decide +kernel

/-- A station that keeps every law. -/
def lawful : State := { tallying with
  station := { tallying.station with clearing := some 60000 }
  sweeps := { tallying.sweeps with call := some 1012 }
  alerts := { tallying.alerts with timer := some 500 }
  roster := { tallying.roster with presence := some 1000 } }

theorem witness_StepsKeepLifeAndService : LifeLaw lawful ∧ ServiceLaw lawful := by decide +kernel
theorem witness_StepsKeepQueue : QueueLaw lawful := by decide +kernel
theorem witness_StepsKeepConverterAndRequester : ConverterLaw lawful ∧ RequesterLaw lawful := by decide +kernel
theorem witness_StepsKeepTableAndRoster : TableLaw lawful ∧ RosterLaw lawful := by decide +kernel
theorem witness_StepsKeepSweeps : SweepLaw lawful := by decide +kernel
theorem witness_StepsKeepAlertsAndGroups : AlertLaw lawful ∧ GroupLaw lawful := by decide +kernel
theorem witness_StepsKeepLaws_step : ∃ t, step { lawful with pending := [.rxSweep 5 31 41] } = .next t := ⟨_, rfl⟩

theorem witness_FaultIsStill :
    let s := after .configByteUngiven loading
    s.station.mode = .fault ∧ s.converter.running = none ∧ s.bus.queue = [] ∧ s.bus.flushed = none ∧ s.requester.pending = [] := by
  decide +kernel

/-- The station with one watch, the key of station 5's channel 1 marked or not, two other ALERTs queued, and, while it is not marked, its third
attempt for the key run down. -/
def losing (c : WatchConfig) (marked : Bool) : State :=
  let s := station (cfgOf [c]) .active
  { State.withQueue s [frameOf (.alert alert), frameOf (.alert alert)] with
    table := [(41, { entry true 900 400 with unreachable := marked })]
    requester := { Requester.empty with
      pending := if marked then [] else [{ target := 5, tag := 7, channels := 2, attempts := 3, stage := .sent 0, duplicateUsed := false }] } }

/-- An ON_SWEEP watch of station 5's channel 1 in group 0. -/
def groupWatch : WatchConfig := { sweepWatch with group := some 0 }

theorem witness_SourceLostFollowsMarks :
    let w := groupWatch
    let s := losing w false
    let e : PendingEntry := { target := 5, tag := 7, channels := 2, attempts := 3, stage := .sent 0, duplicateUsed := false }
    s.cfg.watches = [w] ∧ s.watches = [WatchRun.initial] ∧ s.alerts.groups.length = 8 ∧ RequesterQuiet s ∧
    2 ≤ held .alertUnit s.bus.queue ∧ s.table.find 41 = some (entry true 900 400) ∧ 41 ∈ watchKeys w ∧ Awaits s [] e [] ∧
    ixStation 41 = e.target.toNat ∧ e.channels = BitVec.twoPow 8 (ixChannel 41) ∧ s.alerts.queue = [] ∧ s.alerts.finals = [] ∧
    (∀ j ∈ watchKeys w, j = 41) ∧ (State.withRecord s (record 7 false false true none)).alerts.queue = [record 7 false false true none] := by
  decide +kernel

theorem witness_SourceLostFollowsMarks_reachable :
    let s := losing groupWatch true
    let a := { record 7 true false false none with causes := { threshold := true, sourceLost := true } }
    let b := { a with causes := { threshold := false, sourceLost := true } }
    FromPeer s 5 (.result (.cadence 2) [item 1 9]) ∧ Cause.cls (.cadence 2) ≠ .sweep ∧ RequesterQuiet s ∧
    s.table.find (keyIx 5 1) = some { entry true 900 400 with unreachable := true } ∧
    (State.withRecord s a).alerts.queue = [a] ∧ a.causes.sourceLost = true ∧ a.causes.threshold = true ∧ b.causes.threshold = false := by
  decide +kernel

/-- A DIFFERENCE watch whose other source is marked already. -/
theorem witness_SourceLostFollowsMarks_others :
    let w := { groupWatch with kind := .difference, sourceB := some { station := 9, channel := 1 } }
    let s := { losing w false with table := [(41, entry true 900 400), (73, { entry true 900 400 with unreachable := true })] }
    s.cfg.watches = [w] ∧ 41 ∈ watchKeys w ∧ 73 ∈ watchKeys w ∧ 73 ≠ 41 ∧ Marked s 73 :=
  ⟨rfl, by decide, by decide, by decide, _, rfl, rfl⟩

theorem witness_CountersAndLastSweepNeverFall :
    tallying.sweeps.last = some 40 ∧ ∃ t, exec (.rxSweep 5 31 41) tallying = .next t := ⟨rfl, _, rfl⟩

end Sys2Proof.Tests
end

section
/-! The serial order of sweep numbers (R43), by the distance from one number to another around the circle of 65536. -/

namespace Sys2Proof.Machine

/-- How far a is ahead of b around the circle of sweep numbers: (a − b) modulo 65536 (R43). -/
def aheadOf (a b : Count) : Nat := (a.toNat + 65536 - b.toNat) % 65536

/-- The model's 16-bit subtraction is the manual's distance. -/
theorem toNat_sub_eq_aheadOf (a b : Count) : (a - b).toNat = aheadOf a b := by
  have hb : b.toNat < 65536 := b.isLt
  rw [BitVec.toNat_sub, aheadOf]
  omega

theorem newer_iff (a b : Count) : newer a b = true ↔ 1 ≤ aheadOf a b ∧ aheadOf a b ≤ 32767 := by
  simp only [newer, toNat_sub_eq_aheadOf, Bool.and_eq_true, decide_eq_true_eq]

theorem newer_eq_false_iff (a b : Count) : newer a b = false ↔ aheadOf a b = 0 ∨ 32768 ≤ aheadOf a b := by
  rw [← Bool.not_eq_true, newer_iff]
  omega

@[simp] theorem aheadOf_self (a : Count) : aheadOf a a = 0 := by
  simp [aheadOf]

/-- The ways from a to b and from b to a make up the whole circle, unless both are empty. -/
theorem aheadOf_swap (a b : Count) : aheadOf b a = (65536 - aheadOf a b) % 65536 := by
  have ha : a.toNat < 65536 := a.isLt
  have hb : b.toNat < 65536 := b.isLt
  unfold aheadOf
  omega

theorem aheadOf_succ (a : Count) : aheadOf (a + 1) a = 1 := by
  have hsub : a + 1 - a = 1 := by rw [BitVec.add_comm, BitVec.add_sub_cancel]
  rw [← toNat_sub_eq_aheadOf, hsub]
  rfl

@[simp] theorem newer_self (a : Count) : newer a a = false :=
  (newer_eq_false_iff a a).mpr (.inl (aheadOf_self a))

theorem newer_asymm {a b : Count} (h : newer a b = true) : newer b a = false := by
  obtain ⟨hlow, hhigh⟩ := (newer_iff a b).mp h
  have hback : aheadOf b a = 65536 - aheadOf a b := by
    rw [aheadOf_swap, Nat.mod_eq_of_lt (by omega)]
  exact (newer_eq_false_iff b a).mpr (.inr (by omega))

/-- Half the circle away in one direction is half the circle away in the other. -/
theorem aheadOf_swap_of_opposite {a b : Count} (h : aheadOf a b = 32768) : aheadOf b a = 32768 := by
  rw [aheadOf_swap, h]

theorem newer_eq_false_of_opposite {a b : Count} (h : aheadOf a b = 32768) : newer a b = false :=
  (newer_eq_false_iff a b).mpr (.inr h.ge)

theorem newer_succ (a : Count) : newer (a + 1) a = true :=
  (newer_iff (a + 1) a).mpr (by rw [aheadOf_succ]; decide)

@[simp] theorem acceptable_some (n l : Count) : acceptable n (some l) = newer n l := rfl

/-- Settles O17, from the distance around the circle: its bounds (R43), its value at equality and at the successor, and what it is
seen from the other number. -/
theorem sweepNumbersCompareSerially : Obligations.SweepNumbersCompareSerially := by
  intro a b
  refine ⟨newer_iff a b, newer_self a, newer_asymm, ?opposite, acceptable_some a b, newer_succ a⟩
  case opposite =>
    intro (h : aheadOf a b = 32768)
    exact ⟨newer_eq_false_of_opposite h, newer_eq_false_of_opposite (aheadOf_swap_of_opposite h)⟩

end Sys2Proof.Machine
end

section
/-! The zone function of a watch (R85): the reach of ABOVE and of BELOW, and why the two never meet. -/

namespace Sys2Proof.Machine

/-- x lies in the reach of ABOVE: at the high threshold or over it, or within the hysteresis under it when ABOVE is confirmed (R85). -/
def ReachesAbove (c : WatchConfig) (z : Zone) (x : Int) : Prop :=
  ∃ h, c.high = some h ∧ (h ≤ x ∨ (z = .above ∧ h - c.hysteresis ≤ x))

/-- x lies in the reach of BELOW: at the low threshold or under it, or within the hysteresis over it when BELOW is confirmed (R85). -/
def ReachesBelow (c : WatchConfig) (z : Zone) (x : Int) : Prop :=
  ∃ l, c.low = some l ∧ (x ≤ l ∨ (z = .below ∧ x ≤ l + c.hysteresis))

section
variable {c : WatchConfig} {z : Zone} {x : Int}

/-- One zone is confirmed, so only one reach is widened, and the check of R82 leaves room for one. -/
theorem not_reachesBelow_of_reachesAbove (gap : ∀ h l, c.high = some h → c.low = some l → l + c.hysteresis < h)
    (above : ReachesAbove c z x) : ¬ ReachesBelow c z x := by
  obtain ⟨h, hh, hx⟩ := above
  rintro ⟨l, hl, hx'⟩
  have room := gap h l hh hl
  rcases hx with plain | ⟨rfl, widened⟩ <;> rcases hx' with plain' | ⟨hz', widened'⟩
  · omega
  · omega
  · omega
  · exact Zone.noConfusion hz'

/-- The zone function tries ABOVE, then BELOW, and answers INSIDE when neither is reached. -/
theorem zoneOf_eq_ite [Decidable (ReachesAbove c z x)] [Decidable (ReachesBelow c z x)] :
    zoneOf c z x = if ReachesAbove c z x then .above else if ReachesBelow c z x then .below else .inside := by
  cases hh : c.high <;> cases hl : c.low <;> simp [zoneOf, ReachesAbove, ReachesBelow, hh, hl]

theorem zoneOf_eq_above_iff : zoneOf c z x = .above ↔ ReachesAbove c z x := by
  classical
  rw [zoneOf_eq_ite]
  split_ifs <;> simp [*]

theorem zoneOf_eq_below_iff : zoneOf c z x = .below ↔ ¬ ReachesAbove c z x ∧ ReachesBelow c z x := by
  classical
  rw [zoneOf_eq_ite]
  split_ifs <;> simp [*]

theorem zoneOf_eq_inside_iff : zoneOf c z x = .inside ↔ ¬ ReachesAbove c z x ∧ ¬ ReachesBelow c z x := by
  classical
  rw [zoneOf_eq_ite]
  split_ifs <;> simp [*]

/-- A computed zone is never UNKNOWN, the zone of a watch that has not been evaluated. -/
theorem zoneOf_ne_unknown : zoneOf c z x ≠ .unknown := by
  classical
  rw [zoneOf_eq_ite]
  split_ifs <;> decide

end

/-- Settles O30, from the order in which the zone function tries its zones and the room between their reaches. -/
theorem zoneFunctionHasHysteresis : Obligations.ZoneFunctionHasHysteresis := by
  intro c z x gap
  refine ⟨zoneOf_eq_above_iff, ?below, zoneOf_eq_inside_iff⟩
  case below =>
    have apart : ReachesBelow c z x → ¬ ReachesAbove c z x :=
      fun below above => not_reachesBelow_of_reachesAbove gap above below
    exact zoneOf_eq_below_iff.trans (and_iff_right_of_imp apart)

end Sys2Proof.Machine
end

section
/-! A qualifying evaluation of a watch (R91): the cases of confirmed zone, candidate and persistence in order. -/

namespace Sys2Proof.Machine

/-- The count of z as the candidate after an evaluation that computes z: one more when z is the candidate already, 1 when it is new
(R91). -/
def countWith (r : WatchRun) (z : Zone) : Nat :=
  match r.candidate with
  | some k => if k.zone = z then k.count + 1 else 1
  | none => 1

theorem candidateAfter_of_eq {r : WatchRun} {z : Zone} (h : z = r.zone) : candidateAfter r z = none := if_pos h

theorem candidateAfter_of_ne {r : WatchRun} {z : Zone} (h : z ≠ r.zone) :
    candidateAfter r z = some { zone := z, count := countWith r z } := by
  unfold candidateAfter countWith
  rw [if_neg h]
  rcases r.candidate with _ | k
  · rfl
  · by_cases hk : k.zone = z
    · simp [hk]
    · simp [hk, Ne.symm hk]

/-- Agreement with the confirmed zone, confirmation of the candidate, or a candidate that waits (R84, R91). -/
theorem evaluated_eq_ite (c : WatchConfig) (r : WatchRun) (x : Int) :
    evaluated c r x =
      if zoneOf c r.zone x = r.zone then { r with candidate := none, last := some x }
      else if countWith r (zoneOf c r.zone x) = c.persistence then
        { r with zone := zoneOf c r.zone x, candidate := none, last := some x }
      else
        { r with
          candidate := some { zone := zoneOf c r.zone x, count := countWith r (zoneOf c r.zone x) }
          last := some x } := by
  unfold evaluated
  split_ifs with agrees confirms
  · rw [candidateAfter_of_eq agrees]
  · rw [candidateAfter_of_ne agrees]
    exact if_pos confirms
  · rw [candidateAfter_of_ne agrees]
    exact if_neg confirms

theorem setRun_watches (w : Nat) (r : WatchRun) (s : State) : (setRun w r s).watches = s.watches.set w r :=
  updateAt_const r w s.watches

/-- An evaluation on a value changes the fields of its own watch and no others; what it reports to the alert unit changes no watch. -/
theorem evaluate_some_watches (w : Nat) (c : WatchConfig) (r : WatchRun) (x : Int) (s : State) :
    (evaluate w c r (some x) s).watches = s.watches.set w (evaluated c r x) := by
  simp [evaluate, setRun_watches]

/-- Settles O31, from the cases of an evaluation in order and the one watch that an evaluation changes. -/
theorem zoneConfirmsAfterPersistence : Obligations.ZoneConfirmsAfterPersistence := by
  intro c r x w s
  have fields := evaluated_eq_ite c r x
  exact ⟨zoneOf_ne_unknown, (evaluate_some_watches w c r x s).trans (congrArg (s.watches.set w) fields)⟩

end Sys2Proof.Machine
end
section
/-! The laws of the station as one family, and what it is for a change of the state to keep them all. A change of one block is judged by
the laws of that block alone, so each operation of the model is judged once, and every command is a chain of operations. -/

namespace Sys2Proof.Machine

open Sys2Proof.Safety

/-- No counter of `b` stands below its counter of `a` (R180). -/
abbrev CountersLe (a b : Counters) : Prop :=
  List.Forall₂ (fun x y : Count => x.toNat ≤ y.toNat) (a.first ++ a.second) (b.first ++ b.second)

/-- The laws of Sys2Proof/Safety.lean by name, and for each set of counters the law that they have been reached (R180). -/
inductive Law where
  | life
  | service
  | queue
  | converter
  | requester
  | table
  | roster
  | sweep
  | alert
  | group
  | reached (low : Counters)

/-- The law holds of the state. -/
def Law.Holds : Law → State → Prop
  | .life, s => LifeLaw s
  | .service, s => ServiceLaw s
  | .queue, s => QueueLaw s
  | .converter, s => ConverterLaw s
  | .requester, s => RequesterLaw s
  | .table, s => TableLaw s
  | .roster, s => RosterLaw s
  | .sweep, s => SweepLaw s
  | .alert, s => AlertLaw s
  | .group, s => GroupLaw s
  | .reached low, s => CountersLe low s.counters

/-- Every law that holds of `s` holds of `t`. -/
structure Keeps (s t : State) : Prop where
  holds : ∀ L : Law, L.Holds s → L.Holds t

/-- Every law but `X` that holds of `s` holds of `t`: what a part of a step keeps when `X` is mended only by a later part. -/
structure KeepsBut (X : Law) (s t : State) : Prop where
  holds : ∀ L : Law, L ≠ X → L.Holds s → L.Holds t

theorem Keeps.refl (s : State) : Keeps s s := ⟨fun _ h => h⟩

theorem Keeps.trans {s t u : State} (h : Keeps s t) (g : Keeps t u) : Keeps s u :=
  ⟨fun L hs => g.holds L (h.holds L hs)⟩

theorem Keeps.but {X : Law} {s t : State} (h : Keeps s t) : KeepsBut X s t := ⟨fun L _ => h.holds L⟩

theorem KeepsBut.trans {X : Law} {s t u : State} (h : KeepsBut X s t) (g : KeepsBut X t u) : KeepsBut X s u :=
  ⟨fun L hX hs => g.holds L hX (h.holds L hX hs)⟩

/-- The law that the parts of a step leave out is judged over the whole step. -/
theorem KeepsBut.keeps {X : Law} {s t : State} (h : KeepsBut X s t) (hX : X.Holds s → X.Holds t) : Keeps s t := by
  refine ⟨fun L hL => ?_⟩
  by_cases e : L = X
  · subst e
    exact hX hL
  · exact h.holds L e hL

/-- Operations one after another, over a list. -/
theorem keeps_foldl {α : Type} {f : State → α → State} {l : List α} (h : ∀ s, ∀ x ∈ l, Keeps s (f s x)) (s : State) :
    Keeps s (l.foldl f s) := by
  induction l generalizing s with
  | nil => exact .refl s
  | cons x l ih => exact (h s x (by simp)).trans (ih (fun s y hy => h s y (by simp [hy])) _)

theorem keepsBut_foldl {α : Type} {X : Law} {f : State → α → State} {l : List α} (h : ∀ s, ∀ x ∈ l, KeepsBut X s (f s x)) (s : State) :
    KeepsBut X s (l.foldl f s) := by
  induction l generalizing s with
  | nil => exact (Keeps.refl s).but
  | cons x l ih => exact (h s x (by simp)).trans (ih (fun s y hy => h s y (by simp [hy])) _)

/-! Changes of one block -/

theorem satInc_ge (c : Count) : c.toNat ≤ (satInc c).toNat := by
  unfold satInc
  split
  · exact Nat.le_refl _
  · next h =>
    have hlt : c.toNat ≠ 65535 := fun e => h (BitVec.eq_of_toNat_eq e)
    have := c.isLt
    rw [BitVec.toNat_add_of_lt (by simp; omega)]
    exact Nat.le_add_right _ _

theorem CountersLe.refl (a : Counters) : CountersLe a a := by simp [CountersLe, Counters.first, Counters.second]

theorem CountersLe.trans {a b c : Counters} (h : CountersLe a b) (g : CountersLe b c) : CountersLe a c := by
  simp only [CountersLe, Counters.first, Counters.second, List.cons_append, List.nil_append, List.forall₂_cons, List.Forall₂.nil,
    and_true] at *
  omega

theorem countersLe_bump (c : Counters) (k : Counter) : CountersLe c (c.bump k) := by
  cases k <;> simp [CountersLe, Counters.bump, Counters.first, Counters.second, satInc_ge]

theorem keeps_counters {s : State} {c : Counters} (h : CountersLe s.counters c) : Keeps s { s with counters := c } := by
  refine ⟨fun L hL => ?_⟩
  cases L
  case reached low => exact CountersLe.trans hL h
  all_goals exact hL

theorem bump_keeps (c : Counter) (s : State) : Keeps s (bump c s) := keeps_counters (countersLe_bump _ c)

theorem keeps_draws (s : State) (n : Nat) : Keeps s { s with draws := n } := by
  refine ⟨fun L hL => ?_⟩
  cases L <;> exact hL

theorem keeps_pending (s : State) (l : List Instr) : Keeps s { s with pending := l } := by
  refine ⟨fun L hL => ?_⟩
  cases L <;> exact hL

theorem keeps_watches (s : State) (l : List WatchRun) : Keeps s { s with watches := l } := by
  refine ⟨fun L hL => ?_⟩
  cases L <;> exact hL

theorem keeps_trigger (s : State) (t : TriggerInput) : Keeps s { s with trigger := t } := by
  refine ⟨fun L hL => ?_⟩
  cases L <;> exact hL

theorem keeps_cadence (s : State) (c : Cadence) : Keeps s { s with cadence := c } := by
  refine ⟨fun L hL => ?_⟩
  cases L <;> exact hL

theorem keeps_alerts {s : State} {u : AlertUnit} (timer : u.timer.isSome = s.alerts.timer.isSome)
    (ha : AlertLaw s → AlertLaw { s with alerts := u }) (hg : GroupLaw s → GroupLaw { s with alerts := u }) :
    Keeps s { s with alerts := u } := by
  refine ⟨fun L hL => ?_⟩
  cases L
  case life =>
    obtain ⟨h1, h2, h3, h4, h5, h6, h7, h8⟩ := hL
    exact ⟨h1, h2, h3, h4, h5, h6, by simpa [timer] using h7, h8⟩
  case alert => exact ha hL
  case group => exact hg hL
  all_goals exact hL

theorem keeps_table {s : State} {t : Map Entry} (ht : TableLaw s → TableLaw { s with table := t })
    (hk : (∀ p ∈ s.table, p.1 < 256) → ∀ p ∈ t, p.1 < 256) : Keeps s { s with table := t } := by
  refine ⟨fun L hL => ?_⟩
  cases L
  case table => exact ht hL
  case requester =>
    obtain ⟨h1, h2, h3, h4, h5, h6⟩ := hL
    exact ⟨h1, h2, h3, h4, hk h5, h6⟩
  all_goals exact hL

theorem keepsBut_requester {s : State} {r : Requester} (hr : RequesterLaw s → RequesterLaw { s with requester := r }) :
    KeepsBut .service s { s with requester := r } := by
  refine ⟨fun L hX hL => ?_⟩
  cases L
  case service => exact absurd rfl hX
  case requester => exact hr hL
  all_goals exact hL

theorem keepsBut_converter {s : State} {c : Converter} (hs : ServiceLaw s → ServiceLaw { s with converter := c }) :
    KeepsBut .converter s { s with converter := c } := by
  refine ⟨fun L hX hL => ?_⟩
  cases L
  case service => exact hs hL
  case converter => exact absurd rfl hX
  all_goals exact hL

theorem keepsBut_sweeps {s : State} {u : SweepUnit} (call : u.call.isSome = s.sweeps.call.isSome) :
    KeepsBut .sweep s { s with sweeps := u } := by
  refine ⟨fun L hX hL => ?_⟩
  cases L
  case life =>
    obtain ⟨h1, h2, h3, h4, h5, h6, h7⟩ := hL
    exact ⟨h1, h2, h3, h4, h5, (Bool.eq_iff_iff.mp call).trans h6, h7⟩
  case sweep => exact absurd rfl hX
  all_goals exact hL

theorem keeps_roster {s : State} {r : Roster} (timer : r.presence.isSome = s.roster.presence.isSome)
    (hr : RosterLaw s → RosterLaw { s with roster := r }) : Keeps s { s with roster := r } := by
  refine ⟨fun L hL => ?_⟩
  cases L
  case life =>
    obtain ⟨h1, h2, h3, h4, h5, h6, h7, h8, h9⟩ := hL
    exact ⟨h1, h2, h3, h4, h5, h6, h7, by simpa [timer] using h8, h9⟩
  case roster => exact hr hL
  all_goals exact hL

/-- A change of what the roster holds to be due. -/
theorem keeps_due (s : State) (b : Bool) : Keeps s { s with roster := { s.roster with due := b } } := keeps_roster rfl id

theorem keeps_queries {s : State} {l : List PendingQuery} (h : s.station.mode = .active ∨ (s.queries = [] → l = [])) :
    Keeps s { s with queries := l } := by
  refine ⟨fun L hL => ?_⟩
  cases L
  case service =>
    rcases hL with hm | ⟨h1, h2, h3, h4, h5, h6, h7, h8⟩
    · exact .inl hm
    · rcases h with hm | hl
      · exact .inl hm
      · exact .inr ⟨h1, h2, h3, h4, h5, h6, hl h7, h8⟩
  all_goals exact hL

theorem keepsBut_bus {s : State} {b : BusUnit} (h : s.bus.refusals = [] → b.refusals = []) : KeepsBut .queue s { s with bus := b } := by
  refine ⟨fun L hX hL => ?_⟩
  cases L
  case service =>
    rcases hL with hm | ⟨h1, h2, h3, h4, h5, h6, h7, h8⟩
    · exact .inl hm
    · exact .inr ⟨h1, h2, h3, h4, h5, h6, h7, h h8⟩
  case queue => exact absurd rfl hX
  all_goals exact hL

/-! The transmit queue -/

/-- The frames l hold no more places of any producer than the frames m, are on the line no more often, and are of no other producers. -/
structure Fewer (l m : List QueuedFrame) : Prop where
  places : ∀ p, held p l ≤ held p m
  line : (l.filter QueuedFrame.onLine).length ≤ (m.filter QueuedFrame.onLine).length
  kinds : ∀ q ∈ l, ∃ r ∈ m, Body.producer q.frame.body = Body.producer r.frame.body

/-- One frame as it was, but for what the quotas do not count: its producer is the same, and it is on the line only if it was. -/
abbrev SamePlace (q r : QueuedFrame) : Prop :=
  Body.producer q.frame.body = Body.producer r.frame.body ∧ (q.onLine = true → r.onLine = true)

theorem Fewer.of_sublist {l m : List QueuedFrame} (h : l.Sublist m) : Fewer l m where
  places _ := (h.filter _).length_le
  line := (h.filter _).length_le
  kinds q hq := ⟨q, h.subset hq, rfl⟩

theorem Fewer.trans {l m n : List QueuedFrame} (h : Fewer l m) (g : Fewer m n) : Fewer l n where
  places p := (h.places p).trans (g.places p)
  line := h.line.trans g.line
  kinds q hq := by
    obtain ⟨r, hr, e⟩ := h.kinds q hq
    obtain ⟨x, hx, e'⟩ := g.kinds r hr
    exact ⟨x, hx, e.trans e'⟩

theorem Fewer.of_forall₂ {l m : List QueuedFrame} (h : List.Forall₂ SamePlace l m) : Fewer l m := by
  induction h with
  | nil => exact .of_sublist (.refl _)
  | @cons q r l m hqr _ ih =>
    obtain ⟨hp, hl⟩ := hqr
    refine ⟨fun p => ?_, ?_, ?_⟩
    · have := ih.places p
      have hpp : QueuedFrame.isOf p q = QueuedFrame.isOf p r := by simp only [QueuedFrame.isOf, hp]
      simp only [held, List.filter_cons, hpp] at this ⊢
      split <;> simp [this]
    · have := ih.line
      cases hq : q.onLine <;> cases hr : r.onLine <;> simp_all; omega
    · intro x hx
      rcases List.mem_cons.mp hx with rfl | hx
      · exact ⟨r, by simp, hp⟩
      · obtain ⟨y, hy, e⟩ := ih.kinds x hx
        exact ⟨y, by simp [hy], e⟩

theorem Fewer.map {f : QueuedFrame → QueuedFrame} (h : ∀ q, SamePlace (f q) q) (l : List QueuedFrame) : Fewer (l.map f) l :=
  .of_forall₂ (List.forall₂_map_left_iff.mpr (List.forall₂_same.mpr fun q _ => h q))

theorem Fewer.updateFirst {p : QueuedFrame → Bool} {f : QueuedFrame → QueuedFrame} (h : ∀ q, p q = true → SamePlace (f q) q)
    (l : List QueuedFrame) : Fewer (updateFirst p f l) l := by
  refine .of_forall₂ ?_
  induction l with
  | nil => exact .nil
  | cons q l ih =>
    have same : List.Forall₂ SamePlace l l := List.forall₂_same.mpr fun _ _ => ⟨rfl, id⟩
    unfold Machine.updateFirst
    split
    · next hq => exact .cons (h q hq) same
    · exact .cons ⟨rfl, id⟩ ih

theorem removeFirst_sublist {α : Type} (p : α → Bool) (l : List α) : (removeFirst p l).Sublist l := by
  induction l with
  | nil => exact .refl _
  | cons x l ih =>
    unfold removeFirst
    split
    · exact List.sublist_cons_self x l
    · exact ih.cons_cons x

/-- A queue that holds no more keeps its law. -/
theorem queueLaw_of_fewer {s : State} {l : List QueuedFrame} (h : Fewer l s.bus.queue) (hs : QueueLaw s) :
    QueueLaw { s with bus := { s.bus with queue := l } } := by
  obtain ⟨hp, hq, hl, hr, he, hm, hn, hj⟩ := hs
  refine ⟨fun q hqm => ?_, fun p hpm => (h.places p).trans (hq p hpm), ?_, hr, he, hm, ?_, fun hjm q hqm => ?_⟩
  · obtain ⟨r, hrm, e⟩ := h.kinds q hqm
    exact e ▸ hp r hrm
  · have := h.line
    simp only [onLineFrames, List.length_append] at hl ⊢
    omega
  · rcases hn with hn | hn | hn
    · exact .inl hn
    · exact .inr (.inl hn)
    · refine .inr (.inr (List.eq_nil_iff_forall_not_mem.mpr fun q hqm => ?_))
      obtain ⟨r, hrm, -⟩ := h.kinds q hqm
      simp [hn] at hrm
  · obtain ⟨r, hrm, e⟩ := h.kinds q hqm
    exact e.trans (hj hjm r hrm)

theorem keeps_of_fewer {s : State} {l : List QueuedFrame} (h : Fewer l s.bus.queue) :
    Keeps s { s with bus := { s.bus with queue := l } } :=
  KeepsBut.keeps (X := .queue) (keepsBut_bus (b := { s.bus with queue := l }) id) (queueLaw_of_fewer h)

/-- A producer with a free place may add a frame where the station state lets it send (R150). -/
theorem queueLaw_enqueue {s : State} {p : Producer} {dst : Addr} {body : Body} (hp : Body.producer body = some p)
    (free : quotaFree p s = true) (may : s.station.mode = .active ∨ (s.station.mode = .joining ∧ p = .roster)) (hs : QueueLaw s) :
    QueueLaw (enqueue dst body s) := by
  obtain ⟨hk, hq, hl, hr, he, hm, hn, hj⟩ := hs
  refine ⟨?_, fun p' hp' => ?_, ?_, hr, he, hm, ?_, ?_⟩
  · intro q hqm
    rcases List.mem_append.mp hqm with hqm | hqm
    · exact hk q hqm
    · simp_all
  · have := hq p' hp'
    rw [held_enqueue]
    split
    · next e =>
      obtain rfl : p = p' := by simpa [hp] using e
      simpa [quotaFree] using free
    · exact this
  · simpa [onLineFrames] using hl
  · rcases may with h | h
    · exact .inl h
    · exact .inr (.inl h.1)
  · intro hjm q hqm
    rcases List.mem_append.mp hqm with hqm | hqm
    · exact hj hjm q hqm
    · rcases may with h | h
      · exact absurd (h.symm.trans hjm) (by decide)
      · simp_all

theorem enqueue_keepsBut (dst : Addr) (body : Body) (s : State) : KeepsBut .queue s (enqueue dst body s) := keepsBut_bus id

theorem enqueue_keeps {s : State} {p : Producer} {dst : Addr} {body : Body} (hp : Body.producer body = some p)
    (may : QueueLaw s → quotaFree p s = true ∧ (s.station.mode = .active ∨ (s.station.mode = .joining ∧ p = .roster))) :
    Keeps s (enqueue dst body s) :=
  (enqueue_keepsBut dst body s).keeps fun h => queueLaw_enqueue hp (may h).1 (may h).2 h

end Sys2Proof.Machine
end
section
/-! The alert unit and the watch unit keep the laws. -/

namespace Sys2Proof.Machine

open Sys2Proof.Safety

theorem map_updateFirst {α β : Type} {p : α → Bool} {f : α → α} {g : α → β} (h : ∀ x, p x = true → g (f x) = g x) (l : List α) :
    (updateFirst p f l).map g = l.map g := by
  induction l with
  | nil => rfl
  | cons x l ih =>
    unfold updateFirst
    split
    · next hx => simp [h x hx]
    · simp [ih]

theorem forall_updateFirst {α : Type} {p : α → Bool} {f : α → α} {P : α → Prop} {l : List α} (hl : ∀ x ∈ l, P x)
    (h : ∀ x ∈ l, p x = true → P (f x)) : ∀ x ∈ updateFirst p f l, P x := by
  induction l with
  | nil => simp [updateFirst]
  | cons a l ih =>
    simp only [List.forall_mem_cons] at hl h
    unfold updateFirst
    split
    · next ha => exact List.forall_mem_cons.mpr ⟨h.1 ha, hl.2⟩
    · exact List.forall_mem_cons.mpr ⟨hl.1, ih hl.2 h.2⟩

theorem forall_updateAt {α : Type} {f : α → α} {P : α → Prop} {n : Nat} {l : List α} (hl : ∀ x ∈ l, P x) (h : ∀ x, P x → P (f x)) :
    ∀ x ∈ updateAt f n l, P x := by
  induction l generalizing n with
  | nil => simp [updateAt]
  | cons a l ih =>
    simp only [List.forall_mem_cons] at hl
    cases n with
    | zero => exact List.forall_mem_cons.mpr ⟨h a hl.1, hl.2⟩
    | succ n => exact List.forall_mem_cons.mpr ⟨hl.1, ih hl.2⟩

theorem removeFirst_updateFirst {α : Type} {p : α → Bool} {f : α → α} (h : ∀ x, p x = true → p (f x) = true) (l : List α) :
    removeFirst p (updateFirst p f l) = removeFirst p l := by
  induction l with
  | nil => rfl
  | cons x l ih => by_cases hx : p x <;> simp [updateFirst, removeFirst, hx, h, ih]

/-- A list with an element that the test picks, cut at the first such. -/
theorem exists_split_of_any {α : Type} {p : α → Bool} {l : List α} (h : ∃ x ∈ l, p x = true) :
    ∃ l1 x l2, l = l1 ++ x :: l2 ∧ (∀ y ∈ l1, p y = false) ∧ p x = true := by
  have hs : (l.find? p).isSome = true := by simpa [List.find?_isSome] using h
  obtain ⟨x, hx⟩ := Option.isSome_iff_exists.mp hs
  obtain ⟨hp, l1, l2, e, h1⟩ := List.find?_eq_some_iff_append.mp hx
  exact ⟨l1, x, l2, e, by simpa using h1, hp⟩

/-! The alert queue -/

/-- The record asserts or waits for an acknowledgement (R101, R104). -/
abbrev Standing (r : AlertRecord) : Prop := Causes.isEmpty r.causes = false ∨ r.acknowledged = false

/-- A change that keeps the records' watches, and drops or keeps final announcements. -/
theorem alertLaw_of_watches {s : State} {u : AlertUnit} (watches : u.queue.map AlertRecord.watch = s.alerts.queue.map AlertRecord.watch)
    (standing : (∀ r ∈ s.alerts.queue, Standing r) → ∀ r ∈ u.queue, Standing r)
    (finals : (u.finals.map FinalAnnouncement.watch).Sublist (s.alerts.finals.map FinalAnnouncement.watch)) (h : AlertLaw s) :
    AlertLaw { s with alerts := u } := by
  obtain ⟨hq, hr, hf, hd⟩ := h
  refine ⟨watches ▸ hq, standing hr, hf.sublist finals, fun f hfm => ?_⟩
  have hm : f.watch ∈ s.alerts.finals.map FinalAnnouncement.watch := finals.subset (List.mem_map_of_mem hfm)
  obtain ⟨g, hg, e⟩ := List.mem_map.mp hm
  change f.watch ∉ u.queue.map AlertRecord.watch
  exact watches ▸ e ▸ hd g hg

theorem announceOne_keeps (s : State) : Keeps s (announceOne s) := by
  unfold announceOne
  split
  next h =>
    obtain ⟨ha, hq⟩ := Bool.and_eq_true_iff.mp h
    have may (t : State) (ht : t.station = s.station) (hb : t.bus = s.bus) :
        QueueLaw t → quotaFree .alertUnit t = true ∧
          (t.station.mode = .active ∨ (t.station.mode = .joining ∧ Producer.alertUnit = .roster)) := by
      intro _
      rw [isActive_iff] at ha
      exact ⟨by simpa [quotaFree, hb] using hq, .inl (ht ▸ ha)⟩
    split
    · refine Keeps.trans ?_ (enqueue_keeps rfl (may _ rfl rfl))
      refine keeps_alerts rfl (alertLaw_of_watches rfl id ?_) id
      dsimp only
      rw [map_updateFirst]
      intros
      rfl
    · split
      · refine Keeps.trans ?_ (enqueue_keeps rfl (may _ rfl rfl))
        refine keeps_alerts rfl (alertLaw_of_watches (map_updateFirst (by intros; rfl) _) ?_ (.refl _)) id
        exact fun hr => forall_updateFirst hr fun r hm _ => hr r hm
      · exact .refl s
  · exact .refl s

theorem announce_keeps (s : State) : Keeps s (announce s) := (announceOne_keeps s).trans (announceOne_keeps _)

theorem orphaned_samePlace (w : Nat) (q : QueuedFrame) : SamePlace (if isAlertOf w q then { q with orphan := true } else q) q := by
  split <;> exact ⟨rfl, id⟩

/-- A watch's final announcement dropped from a state whose alert law is judged elsewhere. -/
theorem dropFinal_keepsBut (w : Nat) (s : State) : KeepsBut .alert s (dropFinal w s) := by
  unfold dropFinal
  split
  · refine (Keeps.trans (t := { s with alerts := { s.alerts with finals := s.alerts.finals.filter (fun f => f.watch != w) } }) ?_ ?_).but
    · exact keeps_alerts rfl (alertLaw_of_watches rfl id (List.filter_sublist.map _)) id
    · exact keeps_of_fewer (.map (orphaned_samePlace w) _)
  · exact (Keeps.refl s).but

theorem dropFinal_finals (w : Nat) (s : State) :
    (dropFinal w s).alerts.finals = s.alerts.finals.filter (fun f => f.watch != w) ∧ (dropFinal w s).alerts.queue = s.alerts.queue := by
  unfold dropFinal
  split
  · exact ⟨rfl, rfl⟩
  · next h => exact ⟨(List.filter_eq_self.mpr (by simpa using h)).symm, rfl⟩

theorem ensureRecord_keeps (w : Nat) (s : State) : Keeps s (ensureRecord w s) := by
  unfold ensureRecord
  split
  · exact .refl s
  next h =>
    have hw : ∀ r ∈ s.alerts.queue, r.watch ≠ w := by simpa using h
    have added : KeepsBut .alert s { s with alerts := { s.alerts with queue := s.alerts.queue ++ [AlertRecord.blank w] } } := by
      refine ⟨fun L hL hs => ?_⟩
      cases L
      case alert => exact absurd rfl hL
      all_goals exact hs
    refine (added.trans (dropFinal_keepsBut w _)).keeps fun ⟨hq, hr, hf, hd⟩ => ?_
    obtain ⟨ef, eq⟩ := dropFinal_finals w { s with alerts := { s.alerts with queue := s.alerts.queue ++ [AlertRecord.blank w] } }
    simp only [Law.Holds, AlertLaw, ef, eq]
    refine ⟨?_, ?_, hf.sublist (List.filter_sublist.map _), ?_⟩
    · rw [List.map_append]
      refine List.Nodup.append hq (by simp) ?_
      simpa [List.disjoint_singleton, AlertRecord.blank] using hw
    · intro r hrm
      rcases List.mem_append.mp hrm with hrm | hrm
      · exact hr r hrm
      · obtain rfl : r = AlertRecord.blank w := by simpa using hrm
        exact .inr rfl
    · intro f hfm
      obtain ⟨hfm, hne⟩ := List.mem_filter.mp hfm
      have hne : f.watch ≠ w := by simpa using hne
      simpa [AlertRecord.blank, hne] using hd f hfm

/-- The record of a watch with a raise noted in it, under a new sequence number (R102, R103). -/
def noteRaise (w : Nat) (cause : AlertCause) (zone : Zone) (x : Option Int) (s : State) : State :=
  { s with alerts := { s.alerts with
    seq := s.alerts.seq + 1
    queue := updateFirst (fun r => r.watch == w)
      (fun r => { r with
        sequence := s.alerts.seq + 1
        causes := Causes.add r.causes cause
        acknowledged := false
        announce := true
        changed := true
        zone := zone
        value := if cause = .threshold then x else r.value }) s.alerts.queue } }

/-- A raise in its parts: the record, its fields, the group when it had no cause before, the frame. -/
theorem raiseAlert_eq (w : Nat) (cause : AlertCause) (zone : Zone) (x : Option Int) (s : State) :
    raiseAlert w cause zone x s =
      announce (if (ensureRecord w s).alerts.queue.any (fun r => r.watch == w && Causes.isEmpty r.causes)
        then ownAssert w true (noteRaise w cause zone x (ensureRecord w s)) else noteRaise w cause zone x (ensureRecord w s)) := rfl

theorem noteRaise_keeps (w : Nat) (cause : AlertCause) (zone : Zone) (x : Option Int) (s : State) : Keeps s (noteRaise w cause zone x s) :=
  keeps_alerts rfl (alertLaw_of_watches (map_updateFirst (by simp) _)
    (fun hr => forall_updateFirst hr fun _ _ _ => .inr rfl) (.refl _)) id

/-! Groups and alarm lines -/

/-- What a group's state is (R117). -/
abbrev GroupSettled (g : Group) : Prop :=
  Map.wf g.asserters ∧ g.active = (g.quorum != 0 && decide (g.quorum ≤ g.asserters.length))

/-- Groups that are settled one by one, with the lines driven by them (R117). -/
theorem groupLaw_driveLines {s : State} {gs : List Group} (h : ∀ g ∈ gs, GroupSettled g) :
    GroupLaw { s with alerts := AlertUnit.driveLines { s.alerts with groups := gs } } := ⟨h, rfl, rfl⟩

theorem changeGroup_keeps {f : Map WatchSet → Map WatchSet} (hf : ∀ m, Map.wf m → Map.wf (f m)) (g : Nat) (s : State) :
    Keeps s (changeGroup g f s) :=
  keeps_alerts rfl (alertLaw_of_watches rfl id (.refl _))
    fun h => groupLaw_driveLines (forall_updateAt h.1 fun _ hg => ⟨hf _ hg.1, rfl⟩)

theorem forgetAsserter_keeps (station : Nat) (s : State) : Keeps s (forgetAsserter station s) := by
  refine keeps_alerts rfl (alertLaw_of_watches rfl id (.refl _)) fun h => groupLaw_driveLines fun g hg => ?_
  obtain ⟨gr, hgr, rfl⟩ := List.mem_map.mp hg
  exact ⟨Map.wf_erase (h.1 gr hgr).1 station, rfl⟩

theorem wf_assertIn (station w : Nat) {m : Map WatchSet} (h : Map.wf m) : Map.wf (assertIn station w m) := Map.wf_set h _ _

theorem wf_denyIn (station w : Nat) {m : Map WatchSet} (h : Map.wf m) : Map.wf (denyIn station w m) := by
  unfold denyIn
  split
  · exact h
  · split
    · exact Map.wf_erase h _
    · exact Map.wf_set h _ _

theorem wf_assertOrDeny (b : Bool) (station w : Nat) (m : Map WatchSet) (h : Map.wf m) :
    Map.wf ((if b then assertIn else denyIn) station w m) := by
  cases b
  · exact wf_denyIn station w h
  · exact wf_assertIn station w h

theorem ownAssert_keeps (w : Nat) (b : Bool) (s : State) : Keeps s (ownAssert w b s) := by
  unfold ownAssert
  split
  · exact .refl s
  · exact changeGroup_keeps (wf_assertOrDeny b _ _) _ s

theorem takeAlert_keeps (src : Addr) (a : Alert) (s : State) : Keeps s (takeAlert src a s) := by
  unfold takeAlert
  split
  · exact .refl s
  · refine changeGroup_keeps (fun m hm => ?_) _ s
    cases a.cleared
    · exact wf_assertIn _ _ hm
    · exact wf_denyIn _ _ hm

/-! Raises, ends of causes, acknowledgements -/

theorem raiseAlert_keeps (w : Nat) (cause : AlertCause) (zone : Zone) (x : Option Int) (s : State) :
    Keeps s (raiseAlert w cause zone x s) := by
  rw [raiseAlert_eq]
  refine ((ensureRecord_keeps w s).trans (noteRaise_keeps w cause zone x _)).trans (Keeps.trans ?_ (announce_keeps _))
  split
  · exact ownAssert_keeps w true _
  · exact .refl _

/-- A record that leaves the queue, with the final announcement it makes (R105). -/
theorem alertLaw_removed {s : State} {r : AlertRecord} (hm : ∃ x ∈ s.alerts.queue, x.watch = r.watch) (h : AlertLaw s) :
    AlertLaw { s with alerts := { s.alerts with
      queue := removeFirst (fun q => q.watch == r.watch) s.alerts.queue, finals := s.alerts.finals ++ finalOf r } } := by
  obtain ⟨hq, hr, hf, hd⟩ := h
  obtain ⟨l1, x, l2, e, h1, hx⟩ := exists_split_of_any (p := fun q : AlertRecord => q.watch == r.watch) (by simpa using hm)
  have hx : x.watch = r.watch := by simpa using hx
  have hfw : ∀ f ∈ finalOf r, f.watch = r.watch := by
    unfold finalOf
    split <;> simp
  simp only [AlertLaw, e, removeFirst_of_split l2 h1 (by simpa using hx)]
  have hsub : (l1 ++ l2).Sublist s.alerts.queue := e ▸ (List.sublist_cons_self x l2).append_left l1
  have hout : r.watch ∉ (l1 ++ l2).map AlertRecord.watch := by
    rw [e, List.map_append, List.map_cons, List.nodup_middle, List.nodup_cons, ← List.map_append, hx] at hq
    exact hq.1
  have hnew : ∀ f ∈ s.alerts.finals, f.watch ≠ r.watch := fun f hfm ew =>
    hd f hfm (ew ▸ hx ▸ e ▸ List.mem_map_of_mem (by simp))
  refine ⟨hq.sublist (hsub.map _), fun y hy => hr y (hsub.subset hy), ?_, ?_⟩
  · rw [List.map_append]
    refine List.Nodup.append hf ?_ ?_
    · unfold finalOf
      split <;> simp
    · intro w hw hw'
      obtain ⟨f, hfm, rfl⟩ := List.mem_map.mp hw
      obtain ⟨g, hgm, eg⟩ := List.mem_map.mp hw'
      exact hnew f hfm (eg ▸ hfw g hgm)
  · intro f hfm
    rcases List.mem_append.mp hfm with hfm | hfm
    · exact fun hw => hd f hfm ((hsub.map _).subset hw)
    · exact hfw f hfm ▸ hout

/-- The record of a report that a cause has become inactive (R104). -/
def lowered (cause : AlertCause) (zone : Zone) (x : Option Int) (r : AlertRecord) : AlertRecord :=
  { r with
    causes := Causes.remove r.causes cause
    announce := true
    changed := true
    zone := zone
    value := if cause = .threshold then x else r.value }

/-- The record r put in the place of the one of its watch. -/
def putRecord (w : Nat) (r : AlertRecord) (s : State) : State :=
  { s with alerts := { s.alerts with queue := updateFirst (fun q => q.watch == w) (fun _ => r) s.alerts.queue } }

/-- A report that a cause becomes inactive, in its parts (R104). -/
theorem deactivateAlert_of_find {w : Nat} {cause : AlertCause} {s : State} {r : AlertRecord}
    (hr : s.alerts.queue.find? (fun r => r.watch == w) = some r) (hc : Causes.has r.causes cause = true) (zone : Zone) (x : Option Int) :
    deactivateAlert w cause zone x s =
      if Causes.isEmpty (lowered cause zone x r).causes then
        announce (ownAssert w false (if r.acknowledged
          then removeRecord (lowered cause zone x r) (putRecord w (lowered cause zone x r) s) else putRecord w (lowered cause zone x r) s))
      else announce (putRecord w (lowered cause zone x r) s) := by
  simp only [deactivateAlert, hr, hc, if_true]
  rfl

theorem putRecord_keeps {w : Nat} {r : AlertRecord} (hw : r.watch = w) (hr : Standing r) (s : State) : Keeps s (putRecord w r s) := by
  refine keeps_alerts rfl (alertLaw_of_watches (map_updateFirst (fun q hq => ?_) _) (fun h => forall_updateFirst h fun _ _ _ => hr) (.refl _)) id
  rw [hw, ← beq_iff_eq.mp hq]

theorem deactivateAlert_keeps (w : Nat) (cause : AlertCause) (zone : Zone) (x : Option Int) (s : State) :
    Keeps s (deactivateAlert w cause zone x s) := by
  rcases hr : s.alerts.queue.find? (fun r => r.watch == w) with _ | r
  · simp only [deactivateAlert, hr]
    exact .refl s
  by_cases hc : Causes.has r.causes cause = true
  · have hw : r.watch = w := by simpa using List.find?_some hr
    rw [deactivateAlert_of_find hr hc]
    split
    · refine (Keeps.trans ?_ (ownAssert_keeps w false _)).trans (announce_keeps _)
      split
      · have hm : ∃ y ∈ s.alerts.queue, y.watch = (lowered cause zone x r).watch := ⟨r, List.mem_of_find?_eq_some hr, rfl⟩
        have e : removeRecord (lowered cause zone x r) (putRecord w (lowered cause zone x r) s) = removeRecord (lowered cause zone x r) s := by
          simp only [removeRecord, putRecord, lowered, hw]
          rw [removeFirst_updateFirst (by simp)]
        rw [e]
        exact keeps_alerts rfl (alertLaw_removed hm) id
      · next ha => exact putRecord_keeps (r := lowered cause zone x r) hw (.inr (by simpa [lowered] using ha)) s
    · next he => exact (putRecord_keeps (r := lowered cause zone x r) hw (.inl (by simpa using he)) s).trans (announce_keeps _)
  · simp only [deactivateAlert, hr, hc]
    exact .refl s

theorem takeAck_keeps (q : Count) (s : State) : Keeps s (takeAck q s) := by
  unfold takeAck
  split
  · exact bump_keeps _ s
  next r hr =>
    split
    · refine Keeps.trans ?_ (announce_keeps _)
      exact keeps_alerts rfl (alertLaw_removed ⟨r, List.mem_of_find?_eq_some hr, rfl⟩) id
    next he =>
      refine Keeps.trans ?_ (announce_keeps _)
      refine keeps_alerts rfl (alertLaw_of_watches (map_updateFirst (by intros; rfl) _) (fun h => ?_) (.refl _)) id
      obtain ⟨hp, l1, l2, e, h1⟩ := List.find?_eq_some_iff_append.mp hr
      rw [e] at h ⊢
      rw [updateFirst_of_split _ l2 (by simpa using h1) hp]
      simp only [List.forall_mem_append, List.forall_mem_cons] at h ⊢
      exact ⟨h.1, .inl (by simpa using he), h.2.2⟩

/-- Every record changed, but for what the alert law reads. -/
theorem keeps_mapRecords {s : State} {f : AlertRecord → AlertRecord} (hw : ∀ r, (f r).watch = r.watch)
    (hs : ∀ r, Standing r → Standing (f r)) {fs : List FinalAnnouncement}
    (hf : (fs.map FinalAnnouncement.watch).Sublist (s.alerts.finals.map FinalAnnouncement.watch)) :
    Keeps s { s with alerts := { s.alerts with queue := s.alerts.queue.map f, finals := fs } } := by
  refine keeps_alerts rfl (alertLaw_of_watches (by simp [Function.comp_def, hw]) (fun h r hr => ?_) hf) id
  obtain ⟨x, hx, rfl⟩ := List.mem_map.mp hr
  exact hs x (h x hx)

theorem markAnnounce_keeps (p : AlertRecord → Bool) (s : State) : Keeps s (markAnnounce p s) := by
  refine keeps_mapRecords (fun r => ?_) (fun r hr => ?_) (.refl _)
  · split <;> rfl
  · split <;> exact hr

theorem peerRestartedAlerts_keeps (station : Nat) (s : State) : Keeps s (peerRestartedAlerts station s) :=
  ((forgetAsserter_keeps station s).trans (markAnnounce_keeps _ _)).trans (announce_keeps _)

theorem alertFrameEnded_keeps (q : QueuedFrame) (completed : Bool) (s : State) : Keeps s (alertFrameEnded q completed s) := by
  unfold alertFrameEnded
  split
  next a _ =>
    split
    · exact announce_keeps s
    · refine Keeps.trans (keeps_mapRecords (fun r => ?_) (fun r hr => ?_) ?_) (announce_keeps _)
      · split <;> rfl
      · split <;> exact hr
      · rw [List.map_map]
        have : (FinalAnnouncement.watch ∘ fun f => if f.watch == a.watch.toNat then { f with frame := none } else f) =
            FinalAnnouncement.watch := by
          funext f
          simp only [Function.comp]
          split <;> rfl
        rw [this]
        exact List.filter_sublist.map _
  · exact .refl s

theorem alertFramesFlushed_keeps (s : State) : Keeps s (alertFramesFlushed s) :=
  keeps_mapRecords (s := s) (f := fun r => { r with frame := none }) (fs := s.alerts.finals.map fun f : FinalAnnouncement => { f with frame := none })
    (fun _ => rfl) (fun _ h => h) (by rw [List.map_map]; exact .refl _)

theorem alertRepeat_keeps (s : State) : Keeps s (alertRepeat s) := by
  unfold alertRepeat
  split
  next h =>
    have hd : s.alerts.timer = some 0 := (isDue_iff _).mp (Bool.and_eq_true_iff.mp h).1
    refine (Keeps.trans ?_ (markAnnounce_keeps _ _)).trans (announce_keeps _)
    exact keeps_alerts (by rw [hd]; rfl) (alertLaw_of_watches rfl id (.refl _)) id
  · exact .refl s

/-! The watch unit -/

theorem setRun_keeps (w : Nat) (r : WatchRun) (s : State) : Keeps s (setRun w r s) := keeps_watches s _

theorem reportThreshold_keeps (w : Nat) (c : WatchConfig) (old new : Zone) (x : Int) (s : State) :
    Keeps s (reportThreshold w c old new x s) := by
  unfold reportThreshold
  split
  · exact .refl s
  · split
    · exact raiseAlert_keeps ..
    · exact deactivateAlert_keeps ..
    · exact .refl s

theorem evaluate_keeps (w : Nat) (c : WatchConfig) (r : WatchRun) (x : Option Int) (s : State) : Keeps s (evaluate w c r x s) := by
  unfold evaluate
  split
  · exact setRun_keeps ..
  · exact (setRun_keeps ..).trans (reportThreshold_keeps ..)

theorem evaluateWatch_keeps (v : Map Entry → Nat → Option Int) (w : Nat) (s : State) : Keeps s (evaluateWatch v w s) := by
  unfold evaluateWatch
  split
  · exact evaluate_keeps ..
  · exact .refl s

theorem updateNotice_keeps (keys : List Nat) (s : State) : Keeps s (updateNotice keys s) :=
  keeps_foldl (fun s w _ => evaluateWatch_keeps freshValue w s) s

theorem closeNotice_keeps (n : Count) (s : State) : Keeps s (closeNotice n s) :=
  keeps_foldl (fun s w _ => evaluateWatch_keeps (sweepValue n) w s) s

theorem unreachableNotice_keeps (k : Nat) (s : State) : Keeps s (unreachableNotice k s) := by
  refine keeps_foldl (fun s w _ => ?_) s
  unfold unreachableAt
  split
  · split
    · exact raiseAlert_keeps ..
    · exact .refl s
  · exact .refl s

theorem reachableNotice_keeps (k : Nat) (s : State) : Keeps s (reachableNotice k s) := by
  refine keeps_foldl (fun s w _ => ?_) s
  unfold reachableAt
  split
  · split
    · exact deactivateAlert_keeps ..
    · exact .refl s
  · exact .refl s

end Sys2Proof.Machine
end
section
/-! The value table and the requester keep the laws. -/

namespace Sys2Proof.Machine

open Sys2Proof.Safety

/-! Maps -/

theorem Map.mem_set_cases {α : Type} {m : Map α} {k : Nat} {v : α} {p : Nat × α} (h : p ∈ Map.set m k v) : p = (k, v) ∨ p ∈ m := by
  induction m with
  | nil => simpa [Map.set] using h
  | cons q m ih =>
    obtain ⟨j, w⟩ := q
    unfold Map.set at h
    split at h
    · exact List.mem_cons.mp h
    · split at h
      · exact (List.mem_cons.mp h).imp_right (List.mem_cons_of_mem _)
      · rcases List.mem_cons.mp h with rfl | h
        · exact .inr (by simp)
        · exact (ih h).imp_right (List.mem_cons_of_mem _)

theorem Map.length_set {α : Type} {m : Map α} (hm : Map.wf m) (k : Nat) (v : α) :
    (Map.set m k v).length = if (Map.find m k).isSome then m.length else m.length + 1 := by
  induction m with
  | nil => rfl
  | cons q m ih =>
    obtain ⟨j, w⟩ := q
    obtain ⟨hlt, hm'⟩ := List.pairwise_cons.mp hm
    unfold Map.set
    split
    next hk =>
      have hne : Map.find ((j, w) :: m) k = none := by
        rcases hf : Map.find ((j, w) :: m) k with _ | x
        · rfl
        · rcases List.mem_cons.mp (Map.mem_of_find hf) with e | e
          · simp only [Prod.mk.injEq] at e
            omega
          · have := hlt k (List.mem_map_of_mem e)
            omega
      simp [hne]
    · split
      · next e => simp [Map.find, e]
      · next h1 h2 =>
        have hjk : ¬ j = k := fun e => h2 e.symm
        simp only [List.length_cons, ih hm', Map.find, if_neg hjk]
        split <;> rfl

theorem Map.mem_keys {α : Type} {m : Map α} {p : Nat × α} (h : p ∈ m) : p.1 ∈ Map.keys m := List.mem_map_of_mem h

theorem Map.mem_erase {α : Type} {m : Map α} {k : Nat} {p : Nat × α} (h : p ∈ Map.erase m k) : p ∈ m ∧ p.1 ≠ k := by
  simpa [Map.erase] using h

theorem Map.mem_adjust {α : Type} {m : Map α} {k : Nat} {f : α → α} {p : Nat × α} (h : p ∈ Map.adjust m k f) :
    p ∈ m ∨ (p.1 = k ∧ ∃ v, (k, v) ∈ m ∧ p.2 = f v) := by
  obtain ⟨⟨j, v⟩, hq, e⟩ := List.mem_map.mp h
  dsimp only at e
  split at e
  · next hj =>
    subst hj
    exact .inr ⟨by rw [← e], v, hq, by rw [← e]⟩
  · exact .inl (e ▸ hq)

theorem Map.keys_foldl_set_lt {b : Nat} {l : List Nat} (hl : ∀ k ∈ l, k < b) {α : Type} {v : α} {m : Map α} (hm : ∀ p ∈ m, p.1 < b) :
    ∀ p ∈ l.foldl (fun h k => Map.set h k v) m, p.1 < b := by
  induction l generalizing m with
  | nil => exact hm
  | cons k l ih =>
    simp only [List.forall_mem_cons] at hl
    refine ih hl.2 fun p hp => ?_
    rcases Map.mem_set_cases hp with rfl | hp
    · exact hl.1
    · exact hm p hp

/-! The value table -/

/-- Entries changed under the keys they had. -/
theorem keeps_entries {s : State} {t : Map Entry} (keys : Map.keys t = Map.keys s.table)
    (entries : TableLaw s → ∀ p ∈ t, EntryLaw p.2) : Keeps s { s with table := t } := by
  refine keeps_table (fun h => ⟨?_, ?_, entries h⟩) fun h p hp => ?_
  · simpa only [Map.wf, keys] using h.1
  · have e : t.length = s.table.length := by simpa [Map.keys] using congrArg List.length keys
    exact e ▸ h.2.1
  · obtain ⟨q, hq, e⟩ := List.mem_map.mp (keys ▸ Map.mem_keys hp : p.1 ∈ Map.keys s.table)
    exact e ▸ h q hq

theorem makeRoom_keeps (batch : List Nat) (k : Nat) (s : State) : Keeps s (makeRoom batch k s) := by
  unfold makeRoom
  split
  · split
    · refine Keeps.trans (keeps_table (fun h => ⟨Map.wf_erase h.1 _, ?_, fun p hp => h.2.2 p (Map.mem_erase hp).1⟩) fun h p hp => ?_)
        (bump_keeps _ _)
      · exact (List.filter_sublist.length_le).trans h.2.1
      · exact h p (Map.mem_erase hp).1
    · exact .refl s
  · exact .refl s

theorem keyIx_lt (a : Addr) (c : Channel) : keyIx a c.toNat < 256 := by
  have := a.isLt
  have := c.isLt
  unfold keyIx
  omega

theorem entryLaw_updated (freshness : Nat) (now : Time) (it : Item) (cause : Cause) (e : Entry) :
    EntryLaw (Entry.updated freshness now it cause e) := by simp [EntryLaw, Entry.updated]

theorem applyUpdate_keeps (batch : List Nat) (station : Addr) (cause : Cause) (s : State) (it : Item) :
    Keeps s (applyUpdate batch station cause s it) := by
  simp only [applyUpdate]
  refine (makeRoom_keeps batch (keyIx station it.channel.toNat) s).trans ?_
  generalize makeRoom batch (keyIx station it.channel.toNat) s = s1
  split
  · exact .refl s1
  next h =>
    refine keeps_table (fun ht => ⟨Map.wf_set ht.1 _ _, ?_, fun p hp => ?_⟩) fun hk p hp => ?_
    · have := ht.2.1
      dsimp only
      rw [Map.length_set ht.1]
      split
      · exact this
      · next hn => simp_all
    · rcases Map.mem_set_cases hp with rfl | hp
      · exact entryLaw_updated ..
      · exact ht.2.2 p hp
    · rcases Map.mem_set_cases hp with rfl | hp
      · exact keyIx_lt _ _
      · exact hk p hp

theorem applyBatch_keeps (station : Addr) (cause : Cause) (items : List Item) (s : State) : Keeps s (applyBatch station cause items s) :=
  ((keeps_foldl (fun s it _ => applyUpdate_keeps _ station cause s it) s).trans
    (keeps_foldl (fun s k _ => reachableNotice_keeps k s) _)).trans (updateNotice_keeps _ _)

theorem markUnreachable_keeps (s : State) (k : Nat) : Keeps s (markUnreachable s k) := by
  unfold markUnreachable
  split
  · split
    · exact .refl s
    · refine Keeps.trans (keeps_entries (Map.keys_adjust ..) fun h p hp => ?_) (unreachableNotice_keeps k _)
      rcases Map.mem_adjust hp with hp | ⟨-, v, hv, e⟩
      · exact h.2.2 p hp
      · exact e ▸ h.2.2 _ hv
  · exact .refl s

/-- An entry that was FRESH goes STALE (R72, R76). -/
theorem entryLaw_goStale {e : Entry} (h : EntryLaw e) (hf : e.state = .fresh) : EntryLaw (Entry.goStale e) := by
  obtain ⟨h1, -, h3, -⟩ := h
  have hl : e.latest ≠ none := fun hn => by simp [h1.mpr hn] at hf
  exact ⟨by simpa [Entry.goStale] using hl, by simp [Entry.goStale], h3, .inr (by simp [Entry.goStale])⟩

theorem staleAll_keeps (station : Nat) (s : State) : Keeps s (staleAll station s) := by
  refine keeps_entries (Map.keys_mapRecords ..) fun h p hp => ?_
  obtain ⟨q, hq, rfl⟩ := List.mem_map.mp hp
  dsimp only
  split
  · next hc => exact entryLaw_goStale (h.2.2 q hq) hc.2
  · exact h.2.2 q hq

/-! The requester. Its statements are for one law at a time: what they ask of the station state and of the keys is asked by one law
alone, and follows from that law where they are used. -/

section
variable {L : Law} {s : State}

/-- A change of the requester alone. -/
theorem holds_requester {r : Requester} (hr : L = .requester → RequesterLaw s → RequesterLaw { s with requester := r })
    (hs : L = .service → s.station.mode = .active ∨ (s.requester.wanted = [] → s.requester.holdOffs = [] → s.requester.pending = [] →
      r.wanted = [] ∧ r.holdOffs = [] ∧ r.pending = [])) (h : L.Holds s) : L.Holds { s with requester := r } := by
  cases L
  case service =>
    rcases h with hm | ⟨h1, h2, h3, h4, h5, h6, h7⟩
    · exact .inl hm
    · rcases hs rfl with hm | he
      · exact .inl hm
      · obtain ⟨e4, e5, e6⟩ := he h4 h5 h6
        exact .inr ⟨h1, h2, h3, e4, e5, e6, h7⟩
  case requester => exact hr rfl h
  all_goals exact h

/-- The pending table with entries left out or changed but for their tag, target and attempts; hold-offs and wanted keys in their
ranges. -/
theorem requesterLaw_of_sublist {r : Requester}
    (tags : (r.pending.map PendingEntry.tag).Sublist (s.requester.pending.map PendingEntry.tag))
    (targets : (r.pending.map PendingEntry.target).Sublist (s.requester.pending.map PendingEntry.target))
    (attempts : (∀ e ∈ s.requester.pending, 1 ≤ e.attempts ∧ e.attempts ≤ maxAttempts) →
      ∀ e ∈ r.pending, 1 ≤ e.attempts ∧ e.attempts ≤ maxAttempts)
    (holdOffs : (∀ p ∈ s.requester.holdOffs, p.1 < 256) → ∀ p ∈ r.holdOffs, p.1 < 256)
    (wanted : (∀ p ∈ s.requester.wanted, p.1 < 32) → ∀ p ∈ r.wanted, p.1 < 32) (h : RequesterLaw s) :
    RequesterLaw { s with requester := r } := by
  obtain ⟨hl, ht, ha, hn, hk, hh, hw⟩ := h
  refine ⟨?_, ht.sublist tags, ha.sublist targets, attempts hn, hk, holdOffs hh, wanted hw⟩
  have := tags.length_le
  simp only [List.length_map] at this
  exact this.trans hl

/-- Entries that a test leaves in the pending table. -/
theorem holds_filterPending (p : PendingEntry → Bool) (h : L.Holds s) :
    L.Holds { s with requester := { s.requester with pending := s.requester.pending.filter p } } :=
  holds_requester (fun _ => requesterLaw_of_sublist (List.filter_sublist.map _) (List.filter_sublist.map _)
      (fun hn e he => hn e (List.mem_filter.mp he).1) id id)
    (fun _ => .inr fun h4 h5 h6 => ⟨h4, h5, by simp [h6]⟩) h

/-- One entry changed in its place, but for its tag, target and attempts. -/
theorem holds_updatePending {p : PendingEntry → Bool} {f : PendingEntry → PendingEntry}
    (hf : ∀ e, (f e).tag = e.tag ∧ (f e).target = e.target ∧ (f e).attempts = e.attempts) (h : L.Holds s) :
    L.Holds { s with requester := { s.requester with pending := updateFirst p f s.requester.pending } } := by
  refine holds_requester (fun _ => requesterLaw_of_sublist ?_ ?_ (fun hn => forall_updateFirst hn fun e he _ => (hf e).2.2 ▸ hn e he) id id)
    (fun _ => .inr fun h4 h5 h6 => ⟨h4, h5, by simp [h6, updateFirst]⟩) h
  · exact (map_updateFirst (g := PendingEntry.tag) (fun e _ => (hf e).1) s.requester.pending) ▸ .refl _
  · exact (map_updateFirst (g := PendingEntry.target) (fun e _ => (hf e).2.1) s.requester.pending) ▸ .refl _

/-- Hold-offs left out. -/
theorem holds_filterHoldOffs {H : Map Nat} (hH : H.Sublist s.requester.holdOffs) (h : L.Holds s) :
    L.Holds { s with requester := { s.requester with holdOffs := H } } :=
  holds_requester (fun _ => requesterLaw_of_sublist (.refl _) (.refl _) id (fun hh p hp => hh p (hH.subset hp)) id)
    (fun _ => .inr fun h4 h5 h6 => ⟨h4, List.sublist_nil.mp (h5 ▸ hH), h6⟩) h

theorem removeEntry_holds (tag : Tag) (h : L.Holds s) : L.Holds (removeEntry tag s) := holds_filterPending _ h

theorem mem_setList {w : Nat} {c : BitVec w} {i : Nat} (h : i ∈ setList c) : i < w := by
  have := (List.mem_filter.mp h).1
  simpa using this

theorem keysOf_lt {station : Nat} {channels : ChannelSet} (hs : station < 32) : ∀ k ∈ keysOf station channels, k < 256 := by
  intro k hk
  obtain ⟨c, hc, rfl⟩ := List.mem_map.mp hk
  have := mem_setList hc
  omega

theorem giveUp_holds {station : Nat} {channels : ChannelSet} (active : L = .service → s.station.mode = .active)
    (hst : L = .requester → station < 32) (h : L.Holds s) : L.Holds (giveUp station channels s) := by
  unfold giveUp
  have marked := (keeps_foldl (fun s k _ => markUnreachable_keeps s k) (l := keysOf station channels) s).holds L h
  refine holds_requester (fun e => ?_) (fun e => ?_) marked
  · exact requesterLaw_of_sublist (.refl _) (.refl _) id (Map.keys_foldl_set_lt (keysOf_lt (hst e))) id
  · exact .inl (by simpa using active e)

/-- A law of the plant's work that holds with an entry pending says that the station is ACTIVE. -/
theorem active_of_pending {e : PendingEntry} (he : e ∈ s.requester.pending) (h : ServiceLaw s) : s.station.mode = .active := by
  rcases h with h | ⟨-, -, -, -, -, hp, -⟩
  · exact h
  · simp [hp] at he

theorem giveUpEntry_keeps {e : PendingEntry} (he : e ∈ s.requester.pending) : Keeps s (giveUpEntry e s) :=
  ⟨fun L h => giveUp_holds (s := removeEntry e.tag s) (by rintro rfl; exact active_of_pending (s := s) he h) (fun _ => e.target.isLt)
    (removeEntry_holds e.tag h)⟩

theorem nextAttempt_keeps {e : PendingEntry} (he : e ∈ s.requester.pending) : Keeps s (nextAttempt e s) := by
  unfold nextAttempt
  split
  · exact giveUpEntry_keeps he
  next hmax =>
    refine ⟨fun L h => holds_requester (s := s) (fun _ hr => ?_) (fun eL => .inl ?_) h⟩
    · obtain ⟨hl, ht, ha, hn, hk, hh, hw⟩ := hr
      have fewer : (s.requester.pending.filter (fun x => x.tag != e.tag)).length < s.requester.pending.length :=
        List.length_filter_lt_length_iff_exists.mpr ⟨e, he, by simp⟩
      refine ⟨?_, ?_, ?_, ?_, hk, hh, hw⟩
      · simp only [removeEntry, List.length_append, List.length_singleton]
        omega
      · simp only [removeEntry, List.map_append, List.map_cons, List.map_nil]
        refine List.Nodup.append (ht.sublist (List.filter_sublist.map _)) (by simp) ?_
        simp [List.disjoint_singleton]
      · simp only [removeEntry, List.map_append, List.map_cons, List.map_nil]
        refine List.Nodup.append (ha.sublist (List.filter_sublist.map _)) (by simp) (List.disjoint_singleton.mpr fun hm => ?_)
        obtain ⟨x, hx, ex⟩ := List.mem_map.mp hm
        obtain ⟨hx, hne⟩ := List.mem_filter.mp hx
        obtain rfl := List.inj_on_of_nodup_map ha hx he ex
        simp at hne
      · intro x hx
        rcases List.mem_append.mp hx with hx | hx
        · exact hn x (List.mem_filter.mp hx).1
        · obtain rfl := List.mem_singleton.mp hx
          have := (hn e he).1
          exact ⟨by simp, by simpa using hmax⟩
    · subst eL
      exact active_of_pending he h

/-! Issuing and sending -/

/-- The tag counter's advance passes over the tags in use, one after another (R125). -/
theorem nextTag_spec (used : List Tag) (n : Nat) (t : Tag) :
    ∃ d : Nat, 1 ≤ d ∧ d ≤ n + 1 ∧ nextTag used n t = t + BitVec.ofNat 8 d ∧
      (∀ j, 1 ≤ j → j < d → t + BitVec.ofNat 8 j ∈ used) ∧ (t + BitVec.ofNat 8 d ∉ used ∨ d = n + 1) := by
  induction n generalizing t with
  | zero => exact ⟨1, by omega, by omega, rfl, by omega, .inr rfl⟩
  | succ n ih =>
    by_cases hu : used.contains (t + 1) = true
    · obtain ⟨d, h1, h2, h3, h4, h5⟩ := ih (t + 1)
      have step (j : Nat) : t + 1 + BitVec.ofNat 8 j = t + BitVec.ofNat 8 (j + 1) := by
        rw [BitVec.add_assoc, BitVec.ofNat_add, BitVec.add_comm (BitVec.ofNat 8 j)]
        rfl
      refine ⟨d + 1, by omega, by omega, by rw [nextTag, if_pos hu, h3, step], fun j hj1 hj2 => ?_, ?_⟩
      · obtain _ | _ | j := j
        · omega
        · simpa using hu
        · exact step (j + 1) ▸ h4 (j + 1) (by omega) (by omega)
      · rcases h5 with h | h
        · exact .inl (step d ▸ h)
        · exact .inr (by omega)
    · exact ⟨1, by omega, by omega, by rw [nextTag, if_neg hu]; rfl, by omega, .inl (by simpa using hu)⟩

/-- With at most four tags in use one of the next five is free (R125). -/
theorem nextTag_free {used : List Tag} (hu : used.length ≤ 4) (t : Tag) :
    ∃ d : Nat, 1 ≤ d ∧ d ≤ 5 ∧ nextTag used pendingCapacity t = t + BitVec.ofNat 8 d ∧
      t + BitVec.ofNat 8 d ∉ used ∧ ∀ j, 1 ≤ j → j < d → t + BitVec.ofNat 8 j ∈ used := by
  obtain ⟨d, h1, h2, h3, h4, h5⟩ := nextTag_spec used pendingCapacity t
  refine ⟨d, h1, h2, h3, fun hd => ?_, h4⟩
  obtain rfl : d = 5 := h5.resolve_left (fun h => h hd)
  have five : ((List.range 5).map fun j => t + BitVec.ofNat 8 (j + 1)).Nodup :=
    List.Nodup.map_on (fun i hi j hj e => by
      have e' : BitVec.ofNat 8 (i + 1) = BitVec.ofNat 8 (j + 1) := by simpa using e
      have := congrArg BitVec.toNat e'
      simp only [List.mem_range] at hi hj
      simp only [BitVec.toNat_ofNat] at this
      omega) List.nodup_range
  have sub : ((List.range 5).map fun j => t + BitVec.ofNat 8 (j + 1)) ⊆ used := by
    intro x hx
    obtain ⟨j, hj, rfl⟩ := List.mem_map.mp hx
    simp only [List.mem_range] at hj
    by_cases e : j + 1 = 5
    · exact e ▸ hd
    · exact h4 (j + 1) (by omega) (by omega)
  have := (List.subperm_of_subset five sub).length_le
  simp at this
  omega

/-- A candidate is wanted, not asked, and not held LOST (R126). -/
theorem mem_candidates {a : Nat} : a ∈ candidates s ↔
    ∃ cs, (a, cs) ∈ s.requester.wanted ∧ cs ≠ 0 ∧ (∀ e ∈ s.requester.pending, e.target.toNat ≠ a) ∧ holdsLost s a = false := by
  simp [candidates, and_assoc]

/-- The candidates above the station served last (R126). -/
def candidatesAbove (s : State) : List Nat :=
  match s.requester.served with
  | some b => (candidates s).filter (fun c => decide (b.toNat < c))
  | none => []

theorem nextTarget_eq (s : State) : nextTarget s = (candidatesAbove s).head?.or (candidates s).head? := by
  unfold nextTarget candidatesAbove
  rcases s.requester.served with _ | b
  · rfl
  · dsimp only
    cases (candidates s).filter (fun c => decide (b.toNat < c)) <;> rfl

theorem candidatesAbove_subset (s : State) : candidatesAbove s ⊆ candidates s := by
  unfold candidatesAbove
  split
  · exact List.filter_subset_self _
  · exact List.nil_subset _

theorem nextTarget_mem {a : Nat} (h : nextTarget s = some a) : a ∈ candidates s := by
  rw [nextTarget_eq, Option.or_eq_some_iff] at h
  rcases h with h | ⟨-, h⟩
  · exact candidatesAbove_subset s (List.mem_of_mem_head? h)
  · exact List.mem_of_mem_head? h

theorem issueOne_keeps (s : State) : Keeps s (issueOne s) := by
  unfold issueOne
  split
  next h =>
    obtain ⟨hact, hroom⟩ := Bool.and_eq_true_iff.mp h
    have hroom : s.requester.pending.length < 4 := of_decide_eq_true hroom
    split
    · exact .refl s
    next a ha =>
      obtain ⟨cs, hw, -, hnot, -⟩ := mem_candidates.mp (nextTarget_mem ha)
      refine ⟨fun L h => holds_requester (fun _ hr => ?_) (fun _ => .inl ((isActive_iff s).mp hact)) h⟩
      obtain ⟨hl, ht, htg, hn, hk, hh, hwl⟩ := hr
      have ha32 : a < 32 := hwl _ hw
      refine ⟨?_, ?_, ?_, ?_, hk, hh, fun p hp => hwl p (Map.mem_erase hp).1⟩
      · simpa [pendingCapacity] using hroom
      · rw [List.map_append]
        refine List.Nodup.append ht (by simp) (List.disjoint_singleton.mpr ?_)
        obtain ⟨d, -, -, e, hfree, -⟩ := nextTag_free (used := s.requester.pending.map PendingEntry.tag) (by simpa using hroom.le) s.requester.tag
        exact (e ▸ hfree : nextTag _ _ _ ∉ _)
      · rw [List.map_append]
        refine List.Nodup.append htg (by simp) (List.disjoint_singleton.mpr fun hm => ?_)
        obtain ⟨e, he, et⟩ := List.mem_map.mp hm
        refine hnot e he ?_
        rw [et]
        exact Nat.mod_eq_of_lt ha32
      · intro e he
        rcases List.mem_append.mp he with he | he
        · exact hn e he
        · obtain rfl := List.mem_singleton.mp he
          exact ⟨Nat.le_refl 1, Nat.le_add_left 1 2⟩
  · exact .refl s

theorem sendDue_keeps (s : State) : Keeps s (sendDue s) := by
  unfold sendDue
  split
  next h =>
    obtain ⟨ha, hq⟩ := Bool.and_eq_true_iff.mp h
    split
    · exact .refl s
    · refine Keeps.trans ?_ (enqueue_keeps rfl fun _ => ⟨hq, .inl ((isActive_iff s).mp ha)⟩)
      exact ⟨fun L h => holds_updatePending (by simp) h⟩
  · exact .refl s

theorem pump_keeps (s : State) : Keeps s (pump s) :=
  ((((issueOne_keeps s).trans (issueOne_keeps _)).trans (issueOne_keeps _)).trans (issueOne_keeps _)).trans (sendDue_keeps _)

theorem setEntry_keeps {f : PendingEntry → PendingEntry}
    (hf : ∀ e, (f e).tag = e.tag ∧ (f e).target = e.target ∧ (f e).attempts = e.attempts) (tag : Tag) (s : State) :
    Keeps s (setEntry tag f s) := ⟨fun _ h => holds_updatePending hf h⟩

theorem mem_of_entryOf {tag : Tag} {p : Stage → Bool} {e : PendingEntry} (h : entryOf tag p s = some e) : e ∈ s.requester.pending :=
  List.mem_of_find?_eq_some h

theorem attemptWhen_keeps (tag : Tag) (stage : Stage) (s : State) : Keeps s (attemptWhen tag stage s) := by
  unfold attemptWhen
  split
  · next he => exact (nextAttempt_keeps (mem_of_entryOf he)).trans (pump_keeps _)
  · exact .refl s

theorem measureEnded_keeps (tag : Tag) (completed : Bool) (s : State) : Keeps s (measureEnded tag completed s) := by
  unfold measureEnded
  split
  next he =>
    split
    · exact (setEntry_keeps (by simp) tag s).trans (pump_keeps _)
    · exact (nextAttempt_keeps (mem_of_entryOf he)).trans (pump_keeps _)
  · exact pump_keeps s

theorem takeRefusal_keeps {e : PendingEntry} (he : e ∈ s.requester.pending) (reason : BitVec 3) : Keeps s (takeRefusal e reason s) := by
  unfold takeRefusal
  split
  · exact giveUpEntry_keeps he
  · exact giveUpEntry_keeps he
  · exact setEntry_keeps (by simp) e.tag s
  · exact setEntry_keeps (by simp) e.tag s
  · split
    · exact .refl s
    · exact setEntry_keeps (by simp) e.tag s
  · exact .refl s

theorem takeRefuse_keeps (src : Addr) (kind : RefusedKind) (reason : BitVec 3) (tag : Tag) (s : State) :
    Keeps s (takeRefuse src kind reason tag s) := by
  unfold takeRefuse
  split
  · exact .refl s
  · split
    · next he => exact (takeRefusal_keeps (List.mem_of_find?_eq_some he) reason).trans (pump_keeps _)
    · exact .refl s

theorem answered_keeps (src : Addr) (cause : Cause) (s : State) : Keeps s (answered src cause s) := by
  unfold answered
  split
  · split
    · exact ⟨fun _ h => holds_filterPending _ h⟩
    · exact .refl s
  all_goals exact .refl s

theorem foldl_erase_sublist (keys : List Nat) (m : Map Nat) : (keys.foldl (fun h k => Map.erase h k) m).Sublist m := by
  induction keys generalizing m with
  | nil => exact .refl m
  | cons k keys ih => exact (ih _).trans List.filter_sublist

theorem requesterResult_keeps (src : Addr) (cause : Cause) (items : List Item) (s : State) :
    Keeps s (requesterResult src cause items s) :=
  ((answered_keeps src cause s).trans ⟨fun _ h => holds_filterHoldOffs (foldl_erase_sublist _ _) h⟩).trans (pump_keeps _)

/-! Taking keys -/

theorem wantKey_holds {k : Nat} (active : L = .service → s.station.mode = .active) (hk : L = .requester → k < 256) (h : L.Holds s) :
    L.Holds (wantKey s k) := by
  unfold wantKey
  split
  · exact h
  · refine holds_requester (fun e => requesterLaw_of_sublist (.refl _) (.refl _) id id fun hw p hp => ?_) (fun e => .inl (active e)) h
    have hk := hk e
    rcases Map.mem_set_cases hp with rfl | hp
    · simp only [ixStation]
      omega
    · exact hw p hp

theorem takeKey_holds {k : Nat} (active : L = .service → s.station.mode = .active) (hk : L = .requester → k < 256) (h : L.Holds s) :
    L.Holds (takeKey s k) := by
  unfold takeKey
  split
  · exact giveUp_holds active (fun e => by have := hk e; simp only [ixStation]; omega) h
  · exact wantKey_holds active hk h

theorem staleNotice_holds {k : Nat} (active : L = .service → s.station.mode = .active) (hk : L = .requester → k < 256) (h : L.Holds s) :
    L.Holds (staleNotice s k) := by
  unfold staleNotice
  split
  · exact h
  · exact takeKey_holds active hk h

theorem staleNoticeBeforeLoss_holds {k : Nat} (active : L = .service → s.station.mode = .active) (hk : L = .requester → k < 256)
    (h : L.Holds s) : L.Holds (staleNoticeBeforeLoss s k) := by
  unfold staleNoticeBeforeLoss
  split
  · exact h
  · exact wantKey_holds active hk h

/-- A notice to the requester: it leaves the station state alone, and keeps a law of whose premises it is sure. -/
structure KeepsNotice (L : Law) (take : State → Nat → State) : Prop where
  station : ∀ s k, (take s k).station = s.station
  holds : ∀ s k, (L = .service → s.station.mode = .active) → (L = .requester → k < 256) → L.Holds s → L.Holds (take s k)

theorem takeKey_keepsNotice : KeepsNotice L takeKey := ⟨by simp, fun _ _ => takeKey_holds⟩

theorem staleNotice_keepsNotice : KeepsNotice L staleNotice := ⟨by simp, fun _ _ => staleNotice_holds⟩

theorem staleNoticeBeforeLoss_keepsNotice : KeepsNotice L staleNoticeBeforeLoss := ⟨by simp, fun _ _ => staleNoticeBeforeLoss_holds⟩

/-- A notice with a look for candidates after it is a notice. -/
theorem KeepsNotice.pump {take : State → Nat → State} (h : KeepsNotice L take) : KeepsNotice L (fun s k => pump (take s k)) :=
  ⟨fun s k => by simp [h.station], fun s k ha hk hs => (pump_keeps _).holds L (h.holds s k ha hk hs)⟩

theorem KeepsNotice.foldl {take : State → Nat → State} (ht : KeepsNotice L take) {keys : List Nat}
    (active : L = .service → s.station.mode = .active ∨ keys = []) (hk : L = .requester → ∀ k ∈ keys, k < 256) (h : L.Holds s) :
    L.Holds (keys.foldl take s) := by
  induction keys generalizing s with
  | nil => exact h
  | cons k keys ih =>
    have active : L = .service → s.station.mode = .active := fun e => by simpa using active e
    refine ih (fun e => .inl ?_) (fun e => (List.forall_mem_cons.mp (hk e)).2)
      (ht.holds s k active (fun e => (List.forall_mem_cons.mp (hk e)).1) h)
    rw [ht.station]
    exact active e

theorem takeNotices_holds {take : State → Nat → State} (ht : KeepsNotice L take) {keys : List Nat}
    (active : L = .service → s.station.mode = .active ∨ keys = []) (hk : L = .requester → ∀ k ∈ keys, k < 256) (h : L.Holds s) :
    L.Holds (takeNotices take keys s) := by
  have hd := (keeps_draws s (s.draws + 1)).holds L h
  refine settle_induct ((pump_keeps _).holds L (ht.foldl active hk hd)) ?_
  simpa using (pump_keeps _).holds L (ht.pump.foldl (s := { s with draws := s.draws + 1 }) active hk hd)

theorem presentAfterLost_keeps (station : Nat) (s : State) : Keeps s (presentAfterLost station s) := by
  refine ⟨fun L h => takeNotices_holds takeKey_keepsNotice (fun e => ?_) (fun e k hk => ?_) ?_⟩
  · subst e
    rcases h with h | ⟨-, -, -, -, hh, -⟩
    · exact .inl h
    · exact .inr (by rw [hh]; rfl)
  · subst e
    have hk := (freeOrder_perm _ _).subset hk
    obtain ⟨p, hp, rfl⟩ := List.mem_map.mp hk
    exact h.2.2.2.2.2.1 p (List.mem_filter.mp hp).1
  · exact (keeps_draws _ _).holds L (holds_filterHoldOffs List.filter_sublist h)

theorem requesterLost_keeps {station : Nat} (hst : station < 32) (s : State) : Keeps s (requesterLost station s) := by
  simp only [requesterLost]
  split
  next ha =>
    have hm := (isActive_iff s).mp ha
    refine ⟨fun L h => (pump_keeps _).holds L (giveUp_holds (fun _ => ?_) (fun _ => hst) ?_)⟩
    · exact hm
    refine holds_requester (fun _ => requesterLaw_of_sublist (List.filter_sublist.map _) (List.filter_sublist.map _) ?_ id ?_) (fun _ => .inl hm) h
    · exact fun hn e he => hn e (List.mem_filter.mp he).1
    · exact fun hw p hp => hw p (Map.mem_erase hp).1
  · exact .refl s

theorem requesterRestarted_keeps (station : Nat) (s : State) : Keeps s (requesterRestarted station s) := by
  unfold requesterRestarted
  split
  next he =>
    have step := (nextAttempt_keeps (List.mem_of_find?_eq_some he)).trans (pump_keeps _)
    split
    · exact .refl s
    · exact .refl s
    · exact step
    · exact step
  · exact .refl s

/-- The keys that the table announces are keys of the table. -/
theorem mem_watchedRemote {p : Nat → Entry → Bool} {k : Nat} (h : k ∈ watchedRemote p s) :
    ∃ e, (k, e) ∈ s.table ∧ e.pinned = true ∧ ixStation k ≠ s.own.toNat ∧ p k e = true := by
  obtain ⟨⟨j, e⟩, hq, rfl⟩ := List.mem_map.mp h
  obtain ⟨hm, hc⟩ := List.mem_filter.mp hq
  simp only [Bool.and_eq_true, bne_iff_ne, ne_eq] at hc
  exact ⟨e, hm, hc.1.1, hc.1.2, hc.2⟩

theorem watchedRemote_lt {p : Nat → Entry → Bool} (h : RequesterLaw s) : ∀ k ∈ watchedRemote p s, k < 256 := by
  intro k hk
  obtain ⟨e, he, -⟩ := mem_watchedRemote hk
  exact h.2.2.2.2.1 _ he

theorem announceStale_keeps (ha : s.station.mode = .active) : Keeps s (announceStale s) :=
  ⟨fun _ h => takeNotices_holds staleNotice_keepsNotice (fun _ => .inl ha) (by rintro rfl; exact watchedRemote_lt h) h⟩

theorem tableLost_keeps {notice : State → Nat → State} (hn : ∀ L, KeepsNotice L notice) (station : Nat) (s : State) :
    Keeps s (tableLost notice station s) := by
  simp only [tableLost]
  split
  next ha =>
    have hm : s.station.mode = .active := by simpa [isActive_iff] using ha
    refine ⟨fun L h => (pump_keeps _).holds L ((hn L).foldl (fun _ => .inl hm) ?_ ((staleAll_keeps station s).holds L h))⟩
    rintro rfl
    exact watchedRemote_lt h
  · exact staleAll_keeps station s

theorem freshnessExpiry_keeps {k : Nat} (hk : k < 256) (s : State) : Keeps s (freshnessExpiry k s) := by
  unfold freshnessExpiry
  split
  next e he =>
    split
    next hd =>
      have hd : e.timer = some 0 := (isDue_iff _).mp (Bool.and_eq_true_iff.mp hd).1
      have stale : Keeps s { s with table := s.table.adjust k Entry.goStale } := by
        refine keeps_entries (Map.keys_adjust ..) fun h p hp => ?_
        rcases Map.mem_adjust hp with hp | ⟨-, v, hv, ep⟩
        · exact h.2.2 p hp
        · obtain rfl : e = v := Option.some.inj (he.symm.trans (Map.find_of_mem h.1 hv))
          exact ep ▸ entryLaw_goStale (h.2.2 _ hv) ((h.2.2 _ hv).2.1.mpr (by rw [hd]; rfl))
      dsimp only
      split
      next hc =>
        have ha : s.station.mode = .active := (isActive_iff s).mp (Bool.and_eq_true_iff.mp hc).2
        refine ⟨fun L h => (pump_keeps _).holds L (staleNotice_holds (fun _ => ?_) (fun _ => hk) (stale.holds L h))⟩
        exact ha
      · exact stale
    · exact .refl s
  · exact .refl s

theorem holdOffExpiry_keeps {k : Nat} (hk : k < 256) (s : State) : Keeps s (holdOffExpiry k s) := by
  unfold holdOffExpiry
  split
  next h =>
    have ha : s.station.mode = .active := (isActive_iff s).mp (Bool.and_eq_true_iff.mp h).2
    refine ⟨fun L h => (pump_keeps _).holds L (takeKey_holds (fun _ => ?_) (fun _ => hk) ?_)⟩
    · exact ha
    exact holds_filterHoldOffs List.filter_sublist h
  · exact .refl s

end

end Sys2Proof.Machine
end
section
/-! The converter and the refusal list keep the laws. -/

namespace Sys2Proof.Machine

open Sys2Proof.Safety

/-- The causes of the PEER jobs, by the causes of the jobs in the three places (R6). -/
theorem peerCauses_eq (c : Converter) :
    peerCauses c = ((c.peers ++ c.running.toList ++ c.suspended.toList).map Job.cause).filter (fun x => Cause.cls x == .peer) := by
  rw [peerCauses, List.filter_map]
  rfl

/-- The converter's law but for what the converter does next: nothing may run, with the hold empty, while jobs wait (R14, R15). -/
structure Places (c : Converter) : Prop where
  trigger : ∀ j, c.trigger = some j → Job.cls j = .trigger
  sweep : ∀ j, c.sweep = some j → Job.cls j = .sweep
  cadence : ∀ j, c.cadence = some j → Job.cls j = .cadence
  peers : ∀ j ∈ c.peers, Job.cls j = .peer
  room : c.peers.length ≤ peerCapacity
  causes : (peerCauses c).Nodup
  suspended : ∀ j, c.suspended = some j → Job.cls j ≠ .trigger
  held : c.hold.isSome → c.running = none
  preempted : c.suspended.isSome → triggerRuns c ∨ triggerHeld c ∨ (c.running = none ∧ c.hold = none)

theorem places_of_law {s : State} (h : ConverterLaw s) : Places s.converter := by
  obtain ⟨h1, h2, h3, h4, h5, h6, h7, h8, h9, -⟩ := h
  exact ⟨fun j e => by simpa [e] using h1, fun j e => by simpa [e] using h2, fun j e => by simpa [e] using h3, by simpa using h4, h5, h6,
    fun j e => by simpa [e] using h7, h8, fun e => (h9 e).imp_right .inl⟩

/-- A converter that has jobs waiting only behind a job that runs or a RESULT that is held keeps the whole law. -/
theorem converterLaw_of_places {s : State} {c : Converter} (h : Places c)
    (busy : c.running = none → c.hold = none →
      c.suspended = none ∧ c.trigger = none ∧ c.sweep = none ∧ c.peers = [] ∧ c.cadence = none) :
    ConverterLaw { s with converter := c } := by
  refine ⟨?_, ?_, ?_, by simpa using h.peers, h.room, h.causes, ?_, h.held, fun e => ?_, fun e => (busy e.1 e.2).2⟩
  · simpa [Option.all_eq_true] using h.trigger
  · simpa [Option.all_eq_true] using h.sweep
  · simpa [Option.all_eq_true] using h.cadence
  · simpa [Option.all_eq_true] using h.suspended
  · rcases h.preempted e with ht | ht | ⟨hr, hh⟩
    · exact .inl ht
    · exact .inr ht
    · dsimp only at e
      simp [(busy hr hh).1] at e

theorem filter_peer_of_ne {x : Cause} (h : Cause.cls x ≠ .peer) (l : List Cause) :
    (x :: l).filter (fun x => Cause.cls x == .peer) = l.filter (fun x => Cause.cls x == .peer) := by simp [h]

/-- Where nothing runs, nothing is held and nothing is suspended, the next pending job starts (R14). -/
theorem startNext_law {s : State} {c : Converter} (h : Places c) (hr : c.running = none) (hh : c.hold = none) (hs : c.suspended = none) :
    ConverterLaw { s with converter := c.startNext } := by
  have hc := h.causes
  rw [peerCauses_eq, hr, hs] at hc
  unfold Converter.startNext
  split
  next j hj =>
    refine converterLaw_of_places ⟨by simp, h.sweep, h.cadence, h.peers, h.room, ?_, h.suspended, by simp [hh], by simp [hs]⟩ (by simp)
    rw [peerCauses_eq, hs]
    have : Cause.cls j.cause ≠ .peer := by simp [show Cause.cls j.cause = .trigger from h.trigger j hj]
    simpa [List.filter_append, this] using hc
  next ht =>
    split
    next j hj =>
      refine converterLaw_of_places ⟨h.trigger, by simp, h.cadence, h.peers, h.room, ?_, h.suspended, by simp [hh], by simp [hs]⟩ (by simp)
      rw [peerCauses_eq, hs]
      have : Cause.cls j.cause ≠ .peer := by simp [show Cause.cls j.cause = .sweep from h.sweep j hj]
      simpa [List.filter_append, this] using hc
    next hsw =>
      split
      next j js hj =>
        have hroom := h.room
        have hpeers := h.peers
        rw [hj, List.forall_mem_cons] at hpeers
        refine converterLaw_of_places
          ⟨h.trigger, h.sweep, h.cadence, hpeers.2, ?_, ?_, h.suspended, by simp [hh], by simp [hs]⟩ (by simp)
        · rw [hj, List.length_cons] at hroom
          exact Nat.le_of_succ_le hroom
        · rw [peerCauses_eq, hs]
          rw [hj] at hc
          refine (List.Perm.nodup_iff (List.Perm.filter _ (List.Perm.map _ ?_))).mp hc
          simpa using List.perm_append_comm (l₁ := [j]) (l₂ := js)
      next hp =>
        split
        next j hj =>
          refine converterLaw_of_places ⟨h.trigger, h.sweep, by simp, h.peers, h.room, ?_, h.suspended, by simp [hh], by simp [hs]⟩ (by simp)
          rw [peerCauses_eq, hs]
          have : Cause.cls j.cause ≠ .peer := by simp [show Cause.cls j.cause = .cadence from h.cadence j hj]
          simpa [List.filter_append, this] using hc
        next hcad => exact converterLaw_of_places h fun _ _ => ⟨hs, ht, hsw, hp, hcad⟩

/-- What the converter does next mends its law (R14, R15). -/
theorem proceed_law {s : State} {c : Converter} (h : Places c) : ConverterLaw { s with converter := c.proceed } := by
  unfold Converter.proceed
  split
  next hb =>
    exact converterLaw_of_places h fun hr hh => by simp [hr, hh] at hb
  next hb =>
    obtain ⟨hr, hh⟩ : c.running = none ∧ c.hold = none := by simpa using hb
    split
    next j hj =>
      refine converterLaw_of_places ⟨h.trigger, h.sweep, h.cadence, h.peers, h.room, ?_, by simp, by simp [hh], by simp⟩ (by simp)
      have hc := h.causes
      rw [peerCauses_eq, hr, hj] at hc
      rw [peerCauses_eq]
      simpa using hc
    next hs => exact startNext_law h hr hh hs

/-- A job that starts leaves no work of ACTIVE behind where there was none. -/
theorem proceed_unserved {c : Converter} (h : c.peers = [] ∧ c.sweep = none ∧ c.hold = none) :
    c.proceed.peers = [] ∧ c.proceed.sweep = none ∧ c.proceed.hold = none := by
  obtain ⟨hp, hs, hh⟩ := h
  unfold Converter.proceed
  split
  · exact ⟨hp, hs, hh⟩
  · split
    · exact ⟨hp, hs, hh⟩
    · unfold Converter.startNext
      rw [hp, hs]
      split
      · exact ⟨rfl, rfl, hh⟩
      · dsimp only
        split
        · exact ⟨rfl, rfl, hh⟩
        · exact ⟨hp, hs, hh⟩

/-- The converter holds no work of ACTIVE (R28). -/
abbrev Unserved (c : Converter) : Prop := c.peers = [] ∧ c.sweep = none ∧ c.hold = none

theorem changeConverter_keeps {f : Converter → Converter} {s : State} (hp : Places s.converter → Places (f s.converter))
    (hs : s.station.mode = .active ∨ (Unserved s.converter → Unserved (f s.converter))) : Keeps s (changeConverter f s) := by
  refine KeepsBut.keeps (X := .converter) (keepsBut_converter fun h => ?_) fun h => proceed_law (hp (places_of_law h))
  rcases h with hm | ⟨h1, h2, h3, h4⟩
  · exact .inl hm
  · rcases hs with hm | hu
    · exact .inl hm
    · obtain ⟨e1, e2, e3⟩ := proceed_unserved (hu ⟨h1, h2, h3⟩)
      exact .inr ⟨e1, e2, e3, h4⟩

theorem offerTrigger_keeps (n : Count) (s : State) : Keeps s (offerTrigger n s) := by
  unfold offerTrigger
  split
  · split
    · exact bump_keeps _ s
    · refine changeConverter_keeps (fun h => ?_) (.inr id)
      exact ⟨by rintro j ⟨⟩; rfl, h.sweep, h.cadence, h.peers, h.room, h.causes, h.suspended, h.held, h.preempted⟩
  · exact .refl s

theorem offerSweep_keeps {s : State} (ha : s.station.mode = .active) (n : Count) : Keeps s (offerSweep n s) := by
  have job (s : State) (ha : s.station.mode = .active) :
      Keeps s (changeConverter (fun c => { c with sweep := some (newJob s.cfg.sweepSet s.cfg.sweepSamples (.sweep n)) }) s) :=
    changeConverter_keeps (fun h => ⟨h.trigger, by rintro j ⟨⟩; rfl, h.cadence, h.peers, h.room, h.causes, h.suspended, h.held, h.preempted⟩)
      (.inl ha)
  unfold offerSweep
  split
  · exact (bump_keeps .sweepsSuperseded s).trans (job _ ha)
  · exact job s ha

theorem offerCadence_keeps (n : Count) (s : State) : Keeps s (offerCadence n s) := by
  unfold offerCadence
  split
  · split
    · exact bump_keeps _ s
    · refine changeConverter_keeps (fun h => ?_) (.inr id)
      exact ⟨h.trigger, h.sweep, by rintro j ⟨⟩; rfl, h.peers, h.room, h.causes, h.suspended, h.held, h.preempted⟩
  · exact .refl s

/-! The refusal list -/

/-- The list of refusals alone changed, in a station state that may hold refusals. -/
theorem keeps_refusals {s : State} {l : List RefusalItem} (hl : s.bus.refusals.length ≤ refusalCapacity → l.length ≤ refusalCapacity)
    (hm : s.station.mode = .active ∨ (s.bus.refusals = [] → l = [])) : Keeps s { s with bus := { s.bus with refusals := l } } := by
  refine ⟨fun L h => ?_⟩
  cases L
  case service =>
    rcases h with ha | ⟨h1, h2, h3, h4, h5, h6, h7, h8⟩
    · exact .inl ha
    · exact hm.elim .inl fun e => .inr ⟨h1, h2, h3, h4, h5, h6, h7, e h8⟩
  case queue =>
    obtain ⟨h1, h2, h3, h4, h5, h6, h7, h8⟩ := h
    exact ⟨h1, h2, h3, hl h4, h5, h6.elim .inl fun e => hm.elim .inl fun f => .inr (f e), h7, h8⟩
  all_goals exact h

theorem pumpRefusals_keeps (s : State) : Keeps s (pumpRefusals s) := by
  unfold pumpRefusals
  split
  next hq =>
    split
    next r rs e =>
      have tail : Keeps s { s with bus := { s.bus with refusals := rs } } :=
        keeps_refusals (by rw [e, List.length_cons]; omega) (.inr (by simp [e]))
      refine (tail.but.trans (enqueue_keepsBut ..)).keeps fun h => ?_
      have ha : s.station.mode = .active := h.2.2.2.2.2.1.resolve_right (by simp [e])
      exact queueLaw_enqueue rfl hq (.inl ha) (tail.holds .queue h)
    · exact .refl s
  · exact .refl s

theorem refuse_keeps {s : State} (ha : s.station.mode = .active) (dst : Addr) (kind : RefusedKind) (tag : Tag) (reason : Reason) :
    Keeps s (refuse dst kind tag reason s) := by
  unfold refuse
  split
  · exact bump_keeps _ s
  next h =>
    refine Keeps.trans (keeps_refusals (fun _ => ?_) (.inl ha)) (pumpRefusals_keeps _)
    simpa using h

theorem holdsPeer_eq_false {c : Converter} {src : Addr} {tag : Tag} (h : Converter.holdsPeer c src tag = false) :
    peerCause src tag ∉ (c.peers ++ c.running.toList ++ c.suspended.toList).map Job.cause := by
  unfold Converter.holdsPeer at h
  rw [List.any_eq_false] at h
  intro hm
  obtain ⟨j, hj, e⟩ := List.mem_map.mp hm
  exact h j hj (by simp [e])

/-- A MEASURE that passes every check finds no job of its cause and room in the PEER queue (R9). -/
theorem measureRefusal_eq_none {s : State} {src : Addr} {tag : Tag} {samples : Byte} {channels : List Byte}
    (h : measureRefusal s src tag samples channels = none) :
    Converter.holdsPeer s.converter src tag = false ∧ s.converter.peers.length < peerCapacity := by
  unfold measureRefusal at h
  split_ifs at h with h1 h2 h3 h4
  exact ⟨by simpa using h3, by simpa using h4⟩

theorem takeMeasure_keeps (src : Addr) (tag : Tag) (samples : Byte) (channels : List Byte) (s : State) :
    Keeps s (takeMeasure src tag samples channels s) := by
  unfold takeMeasure
  split
  next ha =>
    have ha := (isActive_iff s).mp ha
    split
    · exact (bump_keeps .measureRefused s).trans (refuse_keeps (s := bump .measureRefused s) ha ..)
    next hn =>
      obtain ⟨hfree, hroom⟩ := measureRefusal_eq_none hn
      refine changeConverter_keeps (fun h => ?_) (.inl ha)
      refine ⟨h.trigger, h.sweep, h.cadence, ?_, ?_, ?_, h.suspended, h.held, h.preempted⟩
      · intro j hj
        rcases List.mem_append.mp hj with hj | hj
        · exact h.peers j hj
        · obtain rfl := List.mem_singleton.mp hj
          rfl
      · simpa using hroom
      · have hc := h.causes
        rw [peerCauses_eq] at hc ⊢
        have hout := holdsPeer_eq_false hfree
        generalize hx : peerJob src tag samples channels = x
        have hxc : x.cause = peerCause src tag := by rw [← hx]; rfl
        have step : ((s.converter.peers ++ [x] ++ s.converter.running.toList ++ s.converter.suspended.toList).map Job.cause).Perm
            (x.cause :: (s.converter.peers ++ s.converter.running.toList ++ s.converter.suspended.toList).map Job.cause) := by
          simp
        refine (List.Perm.nodup_iff (step.filter _)).mpr ?_
        rw [List.filter_cons]
        split
        · exact List.nodup_cons.mpr ⟨fun hm => hout (hxc ▸ (List.mem_filter.mp hm).1), hc⟩
        · exact hc
  · exact bump_keeps _ s

theorem places_without_hold {c : Converter} (h : Places c) : Places { c with hold := none } := by
  refine ⟨h.trigger, h.sweep, h.cadence, h.peers, h.room, h.causes, h.suspended, by simp, fun e => ?_⟩
  rcases h.preempted e with hr | hh | hn
  · exact .inl hr
  · exact .inr (.inr ⟨h.held (Option.isSome_of_any hh), rfl⟩)
  · exact .inr (.inr ⟨hn.1, rfl⟩)

theorem releaseHold_keeps (s : State) : Keeps s (releaseHold s) := by
  unfold releaseHold
  split
  · split
    next h =>
      obtain ⟨ha, hq⟩ := Bool.and_eq_true_iff.mp h
      have ha := (isActive_iff s).mp ha
      exact Keeps.trans (enqueue_keeps rfl fun _ => ⟨hq, .inl ha⟩) (changeConverter_keeps places_without_hold (.inl ha))
    · exact .refl s
  · exact .refl s

theorem places_purged {c : Converter} (h : Places c) : Places { c with peers := [], sweep := none, hold := none } := by
  have h := places_without_hold h
  refine ⟨h.trigger, by simp, h.cadence, by simp, Nat.zero_le _, ?_, h.suspended, by simp, h.preempted⟩
  have hc := h.causes
  rw [peerCauses_eq] at hc ⊢
  refine hc.sublist (List.Sublist.filter _ (List.Sublist.map _ ?_))
  simp

theorem purgeConverter_keeps (s : State) : Keeps s (purgeConverter s) := changeConverter_keeps places_purged (.inr fun _ => ⟨rfl, rfl, rfl⟩)

end Sys2Proof.Machine
end
section
/-! The sweep unit, the jobs, the roster and the query service keep the laws. -/

namespace Sys2Proof.Machine

open Sys2Proof.Safety

/-! Sets coded as words -/

theorem setHas_lt {w : Nat} {s : BitVec w} {i : Nat} (h : setHas s i = true) : i < w := by
  by_contra hi
  simp [setHas, BitVec.getLsbD_of_ge s i (by omega)] at h

theorem subset_iff {w : Nat} {a b : BitVec w} : subset a b = true ↔ ∀ i, setHas a i = true → setHas b i = true := by
  simp only [subset, beq_iff_eq, setHas]
  constructor
  · intro h i hi
    rw [← h, BitVec.getLsbD_and, Bool.and_eq_true] at hi
    exact hi.2
  · intro h
    refine BitVec.eq_of_getLsbD_eq fun i _ => ?_
    have := h i
    rw [BitVec.getLsbD_and]
    cases ha : a.getLsbD i <;> simp_all

theorem subset_setInsert {w : Nat} {a b : BitVec w} {i : Nat} (h : subset a b = true) (hi : setHas b i = true) :
    subset (setInsert a i) b = true := by
  rw [subset_iff] at *
  intro j hj
  rw [setHas_setInsert _ _ _ (setHas_lt hi), Bool.or_eq_true, decide_eq_true_eq] at hj
  rcases hj with hj | rfl
  · exact h j hj
  · exact hi

theorem subset_setErase {w : Nat} {a b : BitVec w} (i : Nat) (h : subset a b = true) : subset (setErase a i) (setErase b i) = true := by
  rw [subset_iff] at *
  intro j hj
  rw [setHas_setErase, Bool.and_eq_true] at *
  exact ⟨h j hj.1, hj.2⟩

/-! The sweep unit -/

section
variable {s : State}

theorem openTally_eq_some {t : Tally} : openTally s = some t ↔ s.sweeps.current = some t ∧ t.state = .opened := by
  unfold openTally
  rcases s.sweeps.current with _ | c
  · simp
  · by_cases h : c.state = .opened
    · simp only [h, if_true, Option.some.injEq]
      exact ⟨fun e => ⟨e, e ▸ h⟩, fun e => e.1⟩
    · simp only [h, if_false, Option.some.injEq, reduceCtorEq, false_iff, not_and]
      rintro rfl
      exact h

/-- A tally that is not OPEN, with the deadline timer stopped, keeps the sweep unit's law. -/
theorem sweepLaw_closed {t : Tally} {state : TallyState} (hn : s.sweeps.last = some t.number) (ht : subset t.reported t.expected = true)
    (hst : state ≠ .opened) (hp : ∀ t ∈ s.sweeps.previous, TallyLaw t ∧ t.state ≠ .opened) :
    SweepLaw { s with sweeps := { s.sweeps with current := some { t with state := state }, deadline := none } } := by
  refine ⟨hn, ?_, hp, fun _ => ?_⟩
  · rintro t ⟨⟩
    exact ⟨ht, fun e => absurd e hst⟩
  · simp [openTally, hst]

theorem closeTally_keepsBut (t : Tally) (state : TallyState) (s : State) : KeepsBut .sweep s (closeTally t state s) :=
  KeepsBut.trans (t := { s with sweeps := { s.sweeps with current := some { t with state := state }, deadline := none } })
    (keepsBut_sweeps rfl) (closeNotice_keeps t.number _).but

theorem closeTally_sweepLaw {t : Tally} {state : TallyState} (hn : s.sweeps.last = some t.number)
    (ht : subset t.reported t.expected = true) (hst : state ≠ .opened)
    (hp : ∀ t ∈ s.sweeps.previous, TallyLaw t ∧ t.state ≠ .opened) : SweepLaw (closeTally t state s) :=
  (closeNotice_keeps t.number _).holds .sweep (sweepLaw_closed hn ht hst hp)

/-- What the law says of an OPEN tally. -/
theorem sweepLaw_open {t : Tally} (h : SweepLaw s) (ho : openTally s = some t) :
    s.sweeps.last = some t.number ∧ subset t.reported t.expected = true ∧ t.reported ≠ t.expected ∧
      ∀ t ∈ s.sweeps.previous, TallyLaw t ∧ t.state ≠ .opened := by
  obtain ⟨hn, hc, hp, -⟩ := h
  obtain ⟨he, hs⟩ := openTally_eq_some.mp ho
  obtain ⟨h1, h2⟩ := hc t he
  exact ⟨by rw [hn, he]; rfl, h1, h2 hs, hp⟩

/-- The OPEN tally changed and still OPEN. -/
theorem keeps_openTally {t t' : Tally} (ho : openTally s = some t) (hn : t'.number = t.number) (hs : t'.state = .opened)
    (ht : subset t.reported t.expected = true → t.reported ≠ t.expected → TallyLaw t') :
    Keeps s { s with sweeps := { s.sweeps with current := some t' } } := by
  refine KeepsBut.keeps (X := .sweep) (keepsBut_sweeps (s := s) rfl) fun h => ?_
  obtain ⟨hl, h1, h2, hp⟩ := sweepLaw_open h ho
  refine ⟨?_, ?_, hp, fun hm => ?_⟩
  · simp only [NumberLaw, Option.map_some, hn, hl]
  · rintro t ⟨⟩
    exact ht h1 h2
  · have := h.2.2.2 hm
    rw [ho] at this
    simpa [openTally, hs] using this

theorem closeOpen_keeps {t t' : Tally} {state : TallyState} (ho : openTally s = some t) (hn : t'.number = t.number)
    (ht : subset t.reported t.expected = true → subset t'.reported t'.expected = true) (hst : state ≠ .opened) :
    Keeps s (closeTally t' state s) := by
  refine (closeTally_keepsBut t' state s).keeps fun h => ?_
  obtain ⟨hl, h1, -, hp⟩ := sweepLaw_open h ho
  exact closeTally_sweepLaw (by rw [hl, hn]) (ht h1) hst hp

theorem applyReport_keeps {t : Tally} (ho : openTally s = some t) (station : Nat) : Keeps s (applyReport station t s) := by
  have hs := (openTally_eq_some.mp ho).2
  simp only [applyReport]
  split
  next hm =>
    split
    · exact closeOpen_keeps ho rfl (fun h => subset_setInsert h hm) (by decide)
    next hne => exact keeps_openTally ho rfl hs fun h _ => ⟨subset_setInsert h hm, fun _ => hne⟩
  · refine Keeps.trans ?_ (bump_keeps _ _)
    exact keeps_openTally ho rfl hs fun h1 h2 => ⟨h1, fun _ => h2⟩

theorem takeReport_keeps (station : Nat) (k : Count) (s : State) : Keeps s (takeReport station k s) := by
  unfold takeReport
  split
  next ho =>
    split
    · exact applyReport_keeps ho station
    · exact bump_keeps _ s
  · exact bump_keeps _ s

theorem sweepLost_keeps (station : Nat) (s : State) : Keeps s (sweepLost station s) := by
  simp only [sweepLost]
  split
  next t ho =>
    have hs := (openTally_eq_some.mp ho).2
    split
    · split
      · exact closeOpen_keeps ho rfl (subset_setErase station) (by decide)
      next hne => exact keeps_openTally ho rfl hs fun h _ => ⟨subset_setErase station h, fun _ => hne⟩
    · exact .refl s
  · exact .refl s

theorem deadlineExpiry_keeps (s : State) : Keeps s (deadlineExpiry s) := by
  unfold deadlineExpiry
  split
  · split
    next ho => exact closeOpen_keeps ho rfl id (by decide)
    · exact .refl s
  · exact .refl s

theorem callExpiry_keeps (s : State) : Keeps s (callExpiry s) := by
  simp only [callExpiry]
  split
  next h =>
    obtain ⟨hd, ha⟩ := Bool.and_eq_true_iff.mp h
    have hd := (isDue_iff _).mp hd
    have restarted : Keeps s { s with sweeps := { s.sweeps with call := some (callDuration s.cfg) } } :=
      KeepsBut.keeps (X := .sweep) (keepsBut_sweeps (s := s) (by rw [hd]; rfl)) id
    split
    next hq => exact restarted.trans (enqueue_keeps rfl fun _ => ⟨hq, .inl ((isActive_iff s).mp ha)⟩)
    · exact restarted
  · exact .refl s

/-! Acceptance of a sweep, whose steps together keep the law of the sweep unit -/

theorem withdrawSweep_keeps (s : State) : Keeps s (withdrawSweep s) := by
  refine keeps_of_fewer (Fewer.trans (.map (fun q => ?_) _) (.of_sublist List.filter_sublist))
  split <;> exact ⟨rfl, id⟩

theorem supersede_keepsBut (s : State) : KeepsBut .sweep s (supersede s) := by
  unfold supersede
  split
  · exact closeTally_keepsBut ..
  · exact (Keeps.refl s).but

theorem openNew_keepsBut (n : Count) (s : State) : KeepsBut .sweep s (openNew n s) := by
  simp only [openNew]
  split
  · refine KeepsBut.trans ?_ (closeTally_keepsBut ..)
    exact keepsBut_sweeps rfl
  · exact keepsBut_sweeps rfl

theorem closeTally_sweeps (t : Tally) (state : TallyState) (s : State) :
    (closeTally t state s).sweeps = { s.sweeps with current := some { t with state := state }, deadline := none } := by
  simp [closeTally]

theorem supersede_sweeps (s : State) :
    (supersede s).sweeps = match openTally s with
      | some t => { s.sweeps with current := some { t with state := .superseded }, deadline := none }
      | none => s.sweeps := by
  unfold supersede
  split <;> simp [closeTally_sweeps, *]

/-- The tally that a new one follows is closed. -/
theorem supersede_current (hc : ∀ t ∈ s.sweeps.current, TallyLaw t) :
    ∀ t ∈ (supersede s).sweeps.current, TallyLaw t ∧ t.state ≠ .opened := by
  rw [supersede_sweeps]
  split
  next t ho =>
    obtain ⟨h1, -⟩ := hc t (openTally_eq_some.mp ho).1
    rintro t' ⟨⟩
    exact ⟨⟨h1, by simp⟩, by simp⟩
  next ho =>
    exact fun t ht => ⟨hc t ht, fun hs => by simp [openTally_eq_some.mpr ⟨ht, hs⟩] at ho⟩

theorem openNew_sweepLaw {n : Count} (hl : s.sweeps.last = some n) (hc : ∀ t ∈ s.sweeps.current, TallyLaw t ∧ t.state ≠ .opened) :
    SweepLaw (openNew n s) := by
  have empty : subset (0 : StationSet) (expectedNow s) = true := subset_iff.mpr fun i hi => by simp [setHas] at hi
  simp only [openNew]
  split
  · exact closeTally_sweepLaw hl empty (by decide) hc
  next hE =>
    refine ⟨hl, ?_, hc, fun _ => ?_⟩
    · rintro t ⟨⟩
      exact ⟨empty, fun _ e => hE e.symm⟩
    · simp [openTally]

theorem offerOwnSweep_keeps (n : Count) (s : State) : Keeps s (offerOwnSweep n s) := by
  unfold offerOwnSweep
  split
  next h => exact offerSweep_keeps ((isActive_iff s).mp (Bool.and_eq_true_iff.mp h).1) n
  · exact .refl s

theorem acceptSweep_keeps (n : Count) (s : State) : Keeps s (acceptSweep n s) := by
  refine Keeps.trans ?_ (offerOwnSweep_keeps n _)
  have noted : KeepsBut .sweep s (noteAccepted n s) := keepsBut_sweeps (by simp)
  refine (((noted.trans (withdrawSweep_keeps _).but).trans (supersede_keepsBut _)).trans (openNew_keepsBut n _)).keeps fun h => ?_
  refine openNew_sweepLaw ?_ (supersede_current ?_)
  · rw [supersede_sweeps]
    split <;> simp [noteAccepted]
  · simpa [noteAccepted] using h.2.1

theorem takeSweep_keeps (n : Count) (s : State) : Keeps s (takeSweep n s) := by
  unfold takeSweep
  split
  · exact acceptSweep_keeps n s
  · exact bump_keeps _ s

theorem sweepResult_keeps (src : Addr) (cause : Cause) (s : State) : Keeps s (sweepResult src cause s) := by
  unfold sweepResult
  split
  · refine Keeps.trans ?_ (takeReport_keeps ..)
    split
    · exact acceptSweep_keeps ..
    · exact .refl s
  all_goals exact .refl s

end

/-! Jobs -/

@[simp] theorem complete_cause (j : Job) (s0 s1 s2 s3 : Value) : (Job.complete j s0 s1 s2 s3).cause = j.cause := by
  unfold Job.complete
  split <;> rfl

@[simp] theorem complete_cls (j : Job) (s0 s1 s2 s3 : Value) : Job.cls (Job.complete j s0 s1 s2 s3) = Job.cls j := by
  simp [Job.cls]

theorem selfReport_keeps (cause : Cause) (s : State) : Keeps s (selfReport cause s) := by
  unfold selfReport
  split
  · exact takeReport_keeps ..
  all_goals exact .refl s

/-- The converter's places after a job's end, before the converter goes on: free, or with the RESULT held (R24). -/
theorem publish_converter (r : Finished) (s : State) :
    (publish r s).converter = s.converter ∨ (s.isActive = true ∧ (publish r s).converter = { s.converter with hold := some r }) := by
  unfold publish
  split
  next ha =>
    split
    · exact .inl (by simp)
    · exact .inr ⟨ha, rfl⟩
  · exact .inl rfl

theorem publish_keepsBut (r : Finished) (s : State) : KeepsBut .converter s (publish r s) := by
  unfold publish
  split
  next ha =>
    have ha := (isActive_iff s).mp ha
    split
    next hq => exact (enqueue_keeps rfl fun _ => ⟨hq, .inl ha⟩).but
    · exact keepsBut_converter fun _ => .inl ha
  · exact (Keeps.refl s).but

/-- A converter whose job has ended, with its RESULT held or gone. -/
theorem places_ended {c : Converter} {j : Job} (h : Places c) (hr : c.running = some j) :
    Places { c with running := none } ∧
      ∀ items, Places { c with running := none, hold := some { cause := j.cause, items := items } } := by
  have hh : c.hold = none := by
    have := h.held
    simpa [hr] using this
  have hc : (peerCauses { c with running := none }).Nodup := by
    have hc := h.causes
    rw [peerCauses_eq] at hc ⊢
    exact hc.sublist (List.Sublist.filter _ (List.Sublist.map _ (by simp)))
  refine ⟨⟨h.trigger, h.sweep, h.cadence, h.peers, h.room, hc, h.suspended, fun _ => rfl, fun _ => .inr (.inr ⟨rfl, hh⟩)⟩, fun items => ?_⟩
  refine ⟨h.trigger, h.sweep, h.cadence, h.peers, h.room, hc, h.suspended, fun _ => rfl, fun e => .inr (.inl ?_)⟩
  rcases h.preempted e with ht | ht | ht
  · simpa [triggerRuns, triggerHeld, hr, Job.cls] using ht
  · simp [triggerHeld, hh] at ht
  · simp [hr] at ht

theorem jobDone_keeps {j j' : Job} {s : State} (hr : s.converter.running = some j) (hj : j'.cause = j.cause) : Keeps s (jobDone j' s) := by
  simp only [jobDone]
  generalize hs1 : ({ s with converter := { s.converter with running := none } } : State) = s1
  generalize hs2 : selfReport j'.cause (applyBatch s.own j'.cause j'.progress s1) = s2
  have e2 : s2.converter = { s.converter with running := none } := by subst hs2 hs1; simp
  have step1 : KeepsBut .converter s s1 := hs1 ▸ keepsBut_converter id
  have step2 : Keeps s1 s2 := hs2 ▸ (applyBatch_keeps _ _ _ s1).trans (selfReport_keeps _ _)
  have step3 := publish_keepsBut { cause := j'.cause, items := j'.progress } s2
  refine KeepsBut.keeps (X := .converter) (((step1.trans step2.but).trans step3).trans ?_) fun h => ?_
  · refine keepsBut_converter fun h => ?_
    rcases h with hm | ⟨h1, h2, h3, h4⟩
    · exact .inl hm
    · obtain ⟨e1, e2, e3⟩ := proceed_unserved ⟨h1, h2, h3⟩
      exact .inr ⟨e1, e2, e3, h4⟩
  · obtain ⟨free, held⟩ := places_ended (places_of_law h) hr
    refine proceed_law ?_
    rcases publish_converter { cause := j'.cause, items := j'.progress } s2 with e | ⟨-, e⟩
    · rw [e, e2]
      exact free
    · rw [e, e2, hj]
      exact held _

/-- The job that runs, with a channel more, is still a job of its cause. -/
theorem running_keeps {j j' : Job} {s : State} (hr : s.converter.running = some j) (hj : j'.cause = j.cause) :
    Keeps s { s with converter := { s.converter with running := some j' } } := by
  refine KeepsBut.keeps (X := .converter) (keepsBut_converter (s := s) id) fun h => ?_
  have h := places_of_law h
  have hh : s.converter.hold = none := by simpa [hr] using h.held
  refine converterLaw_of_places
    ⟨h.trigger, h.sweep, h.cadence, h.peers, h.room, ?_, h.suspended, by simp [hh], fun e => (h.preempted e).imp ?_ ?_⟩ (by simp)
  · have hc := h.causes
    rw [peerCauses_eq] at hc ⊢
    simpa [hr, hj] using hc
  · simp [triggerRuns, hr, Job.cls, hj]
  · simp [hr, triggerHeld, hh]

theorem preempt_keeps {j j' t : Job} {s : State} (hr : s.converter.running = some j) (hj : j'.cause = j.cause)
    (ht : s.converter.trigger = some t) (hc : Job.cls j ≠ .trigger) : Keeps s (preempt j' t s) := by
  refine KeepsBut.keeps (X := .converter) (keepsBut_converter (s := s) id) fun h => ?_
  have h := places_of_law h
  have hh : s.converter.hold = none := by simpa [hr] using h.held
  have htc : Job.cls t = .trigger := h.trigger t ht
  have hs : s.converter.suspended = none := by
    rcases hs : s.converter.suspended with _ | x
    · rfl
    · rcases h.preempted (by simp [hs]) with e | e | e
      · simp [triggerRuns, hr, hc] at e
      · simp [triggerHeld, hh] at e
      · simp [hr] at e
  refine converterLaw_of_places ⟨by simp, h.sweep, h.cadence, h.peers, h.room, ?_, ?_, by simp [hh], fun _ => .inl ?_⟩ (by simp)
  · have hcs := h.causes
    rw [peerCauses_eq] at hcs ⊢
    have : Cause.cls t.cause ≠ .peer := by simp [show Cause.cls t.cause = .trigger from htc]
    simpa [hr, hs, hj, List.filter_append, this] using hcs
  · rintro x ⟨⟩
    simpa [Job.cls, hj] using hc
  · simp [triggerRuns, htc]

theorem channelCompletion_keeps (s0 s1 s2 s3 : Value) (s : State) : Keeps s (channelCompletion s0 s1 s2 s3 s) := by
  unfold channelCompletion
  split
  · exact .refl s
  next j hr =>
    have hj := complete_cause j s0 s1 s2 s3
    dsimp only
    split
    · exact jobDone_keeps hr hj
    · split
      next t ht =>
        split
        · exact running_keeps hr hj
        next hc => exact preempt_keeps hr hj ht hc
      · exact running_keeps hr hj

/-! The roster -/

theorem slotLaw_heardPeer (now : Time) (info : Option Presence) : SlotLaw (heardPeer now info) := by simp [SlotLaw, heardPeer]

/-- One slot replaced by a slot that keeps its law. -/
theorem keeps_slot {s : State} {p : Peer} (hp : SlotLaw p) (a : Nat) :
    Keeps s { s with roster := { s.roster with peers := s.roster.peers.set a p } } := by
  refine keeps_roster rfl fun h => ⟨Map.wf_set h.1 _ _, fun q hq => ?_, h.2.2⟩
  rcases Map.mem_set_cases hq with rfl | hq
  · exact hp
  · exact h.2.1 q hq

theorem announceRestart_keeps (station : Nat) (s : State) : Keeps s (announceRestart station s) :=
  eitherFirst_induct (P := Keeps s)
    (((keeps_draws s _).trans (peerRestartedAlerts_keeps station _)).trans (requesterRestarted_keeps station _))
    (((keeps_draws s _).trans (requesterRestarted_keeps station _)).trans (peerRestartedAlerts_keeps station _))

theorem hear_keeps (src : Addr) (body : Body) (s : State) : Keeps s (hear src body s) := by
  simp only [hear]
  generalize hs1 : ({ s with roster := { s.roster with
    peers := s.roster.peers.set src.toNat (heardPeer s.time (infoAfter (s.roster.peers.find src.toNat) body)) } } : State) = s1
  have h1 : Keeps s s1 := hs1 ▸ keeps_slot (slotLaw_heardPeer ..) src.toNat
  have h2 : Keeps s (if holdsLost s src.toNat then presentAfterLost src.toNat s1 else s1) := by
    split
    · exact h1.trans (presentAfterLost_keeps ..)
    · exact h1
  split
  · exact h2.trans (announceRestart_keeps ..)
  · exact h2

/-- A slot that a look-up finds keeps its law. -/
theorem slotLaw_of_find {s : State} {a : Nat} {p : Peer} (hf : s.roster.peers.find a = some p) (h : RosterLaw s) : SlotLaw p :=
  h.2.1 _ (Map.mem_of_find hf)

theorem silentExpiry_keeps (station : Nat) (s : State) : Keeps s (silentExpiry station s) := by
  simp only [silentExpiry]
  split
  next p hp =>
    split
    next hd =>
      refine keeps_roster rfl fun h => ⟨Map.wf_set h.1 _ _, fun q hq => ?_, h.2.2⟩
      rcases Map.mem_set_cases hq with rfl | hq
      · obtain ⟨hquiet, hgone⟩ := slotLaw_of_find hp h
        have hq : p.quiet = some 0 := (isDue_iff _).mp (Bool.and_eq_true_iff.mp hd).1
        have hs : p.state = .present := hquiet.mp (by simp [hq])
        exact ⟨by simp, by simpa [hs] using hgone⟩
      · exact h.2.1 q hq
    · exact .refl s
  · exact .refl s

theorem announceLost_keeps {station : Nat} (hst : station < 32) (s : State) : Keeps s (announceLost station s) := by
  simp only [announceLost]
  refine Keeps.trans (settle_induct (P := Keeps s) ?_ ?_) (forgetAsserter_keeps station _)
  all_goals
    have v (s : State) := tableLost_keeps (fun _ => staleNoticeBeforeLoss_keepsNotice) station s
    have u (s : State) := tableLost_keeps (fun _ => staleNotice_keepsNotice) station s
    have w (s : State) := sweepLost_keeps station s
    have r (s : State) := requesterLost_keeps hst s
    have d := keeps_draws s (s.draws + 1)
  · exact ((d.trans (v _)).trans (w _)).trans (r _)
  · simp only [List.forall_mem_cons, List.not_mem_nil, false_imp_iff, implies_true, and_true]
    exact ⟨((d.trans (v _)).trans (r _)).trans (w _), ((d.trans (w _)).trans (v _)).trans (r _), ((d.trans (w _)).trans (r _)).trans (u _),
      ((d.trans (r _)).trans (u _)).trans (w _), ((d.trans (r _)).trans (w _)).trans (u _)⟩

theorem lostExpiry_keeps {station : Nat} (hst : station < 32) (s : State) : Keeps s (lostExpiry station s) := by
  simp only [lostExpiry]
  split
  · split
    · exact Keeps.trans (keeps_slot ⟨by simp, by simp⟩ station) (announceLost_keeps hst _)
    · exact .refl s
  · exact .refl s

/-! The station's own PRESENCE -/

theorem held_eq_zero_iff {p : Producer} {l : List QueuedFrame} : held p l = 0 ↔ ∀ q ∈ l, QueuedFrame.isOf p q = false := by
  simp [held, List.filter_eq_nil_iff]

theorem replacePresence_keeps (s : State) : Keeps s (replacePresence s) := by
  refine keeps_of_fewer (.updateFirst (fun q hq => ?_) _)
  refine ⟨?_, id⟩
  have hq : Body.producer q.frame.body = some .roster := by simpa [isPresenceFrame, QueuedFrame.isOf] using hq
  exact hq.symm

theorem placePresence_keeps {s : State} (hm : s.station.mode = .active ∨ s.station.mode = .joining) : Keeps s (placePresence s) := by
  unfold placePresence
  split
  next hn =>
    refine enqueue_keeps rfl fun _ => ⟨?_, hm.imp_right fun h => ⟨h, rfl⟩⟩
    have : held .roster s.bus.queue = 0 := held_eq_zero_iff.mpr (by simpa [isPresenceFrame] using hn)
    simp [quotaFree, this, Producer.quota]
  · split
    · exact keeps_due s true
    · exact replacePresence_keeps s

theorem presenceReturned_keeps (s : State) : Keeps s (presenceReturned s) := by
  unfold presenceReturned
  split
  · exact (keeps_due s false).trans (replacePresence_keeps _)
  · exact .refl s

theorem presenceExpiry_keeps (s : State) : Keeps s (presenceExpiry s) := by
  unfold presenceExpiry
  split
  next h =>
    obtain ⟨hd, hm⟩ := Bool.and_eq_true_iff.mp h
    have hd := (isDue_iff _).mp hd
    refine Keeps.trans (keeps_roster (r := { s.roster with presence := some (periodMs s.cfg.presence) }) (by rw [hd]; rfl) id) (placePresence_keeps ?_)
    rcases Bool.or_eq_true_iff.mp hm with hm | hm
    · exact .inr (by simpa using hm)
    · exact .inl ((isActive_iff s).mp hm)
  · exact .refl s

/-! The query service -/

theorem answerOne_keeps (s : State) : Keeps s (answerOne s) := by
  unfold answerOne
  split
  next h =>
    obtain ⟨ha, hq⟩ := Bool.and_eq_true_iff.mp h
    have ha := (isActive_iff s).mp ha
    split
    next q qs _ =>
      have hp (s : State) : Body.producer (replyBody q s) = some .queryService := by
        unfold replyBody
        split <;> rfl
      exact Keeps.trans (keeps_queries (.inl ha)) (enqueue_keeps (hp _) fun _ => ⟨hq, .inl ha⟩)
    · exact .refl s
  · exact .refl s

theorem answer_keeps (s : State) : Keeps s (answer s) := (answerOne_keeps s).trans (answerOne_keeps _)

theorem takeQuery_keeps (src : Addr) (kind : BitVec 3) (tag : Tag) (arg : QueryArg) (s : State) :
    Keeps s (takeQuery src kind tag arg s) := by
  unfold takeQuery
  split
  next ha =>
    have ha := (isActive_iff s).mp ha
    split
    · exact refuse_keeps ha ..
    · split
      · exact refuse_keeps ha ..
      · exact (keeps_queries (.inl ha)).trans (answer_keeps _)
  · exact bump_keeps _ s

theorem dropQueries_keeps (s : State) : Keeps s (dropQueries s) :=
  (keeps_queries (.inr fun _ => rfl)).trans (keeps_foldl (fun s _ _ => bump_keeps _ s) _)

end Sys2Proof.Machine
end
section
/-! The station's own frames on the line, and its life, keep the laws. -/

namespace Sys2Proof.Machine

open Sys2Proof.Safety

/-! The frame on the line -/

section
variable {s : State} {q : QueuedFrame}

theorem frameOnLine_iff : frameOnLine s = some q ↔ ∃ l1 l2, OnLine s l1 q l2 := by
  unfold frameOnLine
  rw [List.find?_eq_some_iff_append]
  constructor
  · rintro ⟨hq, l1, l2, e, h1⟩
    exact ⟨l1, l2, e, hq, by simpa using h1⟩
  · rintro ⟨l1, l2, e, hq, h1⟩
    exact ⟨hq, l1, l2, e, by simpa using h1⟩

theorem frameOnLine_of_onLine {l1 l2 : List QueuedFrame} (h : OnLine s l1 q l2) : frameOnLine s = some q :=
  frameOnLine_iff.mpr ⟨l1, l2, h⟩

theorem removeOnLine_of_onLine {l1 l2 : List QueuedFrame} (h : OnLine s l1 q l2) :
    removeOnLine s = { s with bus := { s.bus with queue := l1 ++ l2 } } := by
  obtain ⟨hs, hq, h1⟩ := h
  simp only [removeOnLine, hs, removeFirst_of_split l2 h1 hq]

theorem removeOnLine_keeps (s : State) : Keeps s (removeOnLine s) := keeps_of_fewer (.of_sublist (removeFirst_sublist _ _))

theorem keeps_errors {n : Nat} (hn : n ≤ errorLimit) : Keeps s { s with bus := { s.bus with errors := n } } := by
  refine KeepsBut.keeps (X := .queue) (keepsBut_bus id) fun ⟨h1, h2, h3, h4, _, h6⟩ => ?_
  exact ⟨h1, h2, h3, h4, hn, h6⟩

/-- What the law of the transmit queue asks before a due PRESENCE takes a place there. -/
abbrev PresenceMayEnter (s : State) : Prop :=
  held .roster s.bus.queue = 0 ∧ (s.station.mode = .active ∨ s.station.mode = .joining)

theorem presenceEnded_holds {L : Law} (may : L = .queue → PresenceMayEnter s) (h : L.Holds s) : L.Holds (presenceEnded s) := by
  unfold presenceEnded
  split
  · have due := (keeps_due s false).holds L h
    by_cases hL : L = .queue
    · subst hL
      obtain ⟨hr, hm⟩ := may rfl
      exact queueLaw_enqueue rfl (by simp [quotaFree, hr, Producer.quota]) (hm.imp_right fun h => ⟨h, rfl⟩) due
    · exact (enqueue_keepsBut ..).holds L hL due
  · exact h

theorem frameEnded_holds {L : Law} {completed : Bool} (may : L = .queue → isPresenceFrame q = true → PresenceMayEnter s) (h : L.Holds s) :
    L.Holds (frameEnded q completed s) := by
  unfold frameEnded
  split
  case h_1 => exact (alertFrameEnded_keeps ..).holds L h
  case h_2 =>
    split
    · exact (acceptSweep_keeps ..).holds L h
    · exact h
  case h_3 => exact (measureEnded_keeps ..).holds L h
  case h_4 => exact (releaseHold_keeps s).holds L h
  case h_5 => exact (pumpRefusals_keeps s).holds L h
  case h_6 => exact (answer_keeps s).holds L h
  case h_7 hb => exact presenceEnded_holds (fun e => may e (by simp [isPresenceFrame, QueuedFrame.isOf, hb, Body.producer])) h
  all_goals exact h

/-- With its one frame gone from a queue that keeps the quotas, the roster has none there. -/
theorem presenceMayEnter_removeOnLine {l1 l2 : List QueuedFrame} (ho : OnLine s l1 q l2) (hp : isPresenceFrame q = true) (h : QueueLaw s) :
    PresenceMayEnter (removeOnLine s) := by
  obtain ⟨-, hq, -, -, -, -, hm, -⟩ := h
  have hr := hq .roster (by decide)
  have hp : QueuedFrame.isOf .roster q = true := hp
  rw [removeOnLine_of_onLine ho]
  obtain ⟨hs, -, -⟩ := ho
  refine ⟨?_, ?_⟩
  · simp only [hs, held_append, Producer.quota] at hr ⊢
    simp only [held, List.filter_cons, hp, if_true, List.length_cons] at hr ⊢
    omega
  · rcases hm with hm | hm | hm
    · exact .inl hm
    · exact .inr hm
    · simp [hs] at hm

theorem sendCompletion_keeps (s : State) : Keeps s (sendCompletion s) := by
  refine ⟨fun L h => ?_⟩
  unfold sendCompletion
  split
  next q hq =>
    obtain ⟨l1, l2, ho⟩ := frameOnLine_iff.mp hq
    refine frameEnded_holds (fun e hp => ?_) ((keeps_errors (Nat.zero_le _)).holds L ((removeOnLine_keeps s).holds L h))
    subst e
    exact presenceMayEnter_removeOnLine ho hp h
  · exact h

theorem returnFrame_keeps {f : QueuedFrame → QueuedFrame} (hf : ∀ q, (f q).frame = q.frame) (s : State) : Keeps s (returnFrame f s) :=
  keeps_of_fewer (.updateFirst (fun q _ => ⟨by simp [hf], by simp⟩) _)

theorem frameReturned_keeps {f : QueuedFrame → QueuedFrame} (hf : ∀ q, (f q).frame = q.frame) (q : QueuedFrame) (s : State) :
    Keeps s (frameReturned q f s) := by
  unfold frameReturned
  split
  · exact removeOnLine_keeps s
  · split
    · exact (returnFrame_keeps hf s).trans (presenceReturned_keeps _)
    · exact returnFrame_keeps hf s

theorem arbitrationLoss_keeps (s : State) : Keeps s (arbitrationLoss s) := by
  unfold arbitrationLoss
  split
  · exact frameReturned_keeps (fun _ => rfl) ..
  · exact .refl s

theorem discardFrame_holds {L : Law} (may : L = .queue → isPresenceFrame q = true → PresenceMayEnter s) (h : L.Holds s) :
    L.Holds (discardFrame q s) := by
  have drawn := (keeps_draws s (s.draws + 1)).holds L h
  exact eitherFirst_induct (P := L.Holds) (frameEnded_holds may ((bump_keeps _ _).holds L drawn))
    ((bump_keeps _ _).holds L (frameEnded_holds may drawn))

theorem erroredFrame_keeps (hq : frameOnLine s = some q) : Keeps s (erroredFrame q s) := by
  unfold erroredFrame
  split
  · exact removeOnLine_keeps s
  · split
    · obtain ⟨l1, l2, ho⟩ := frameOnLine_iff.mp hq
      refine ⟨fun L h => discardFrame_holds (fun e hp => ?_) ((removeOnLine_keeps s).holds L h)⟩
      subst e
      exact presenceMayEnter_removeOnLine ho hp h
    · exact frameReturned_keeps (by intros; rfl) ..

theorem raiseErrors_keeps (s : State) : Keeps s (raiseErrors s) := keeps_errors (Nat.min_le_right _ _)

theorem flushedFrameEnd_keeps (s : State) : Keeps s (flushedFrameEnd s) := by
  refine KeepsBut.keeps (X := .queue) (keepsBut_bus id) fun ⟨h1, h2, h3, h4⟩ => ⟨h1, h2, ?_, h4⟩
  simp only [onLineFrames, List.length_append] at h3 ⊢
  exact (Nat.add_le_add_left (Nat.zero_le _) _).trans h3

/-- A queue in which frames changed but for what the quotas count. -/
theorem held_of_frames {l m : List QueuedFrame} (h : l.map QueuedFrame.frame = m.map QueuedFrame.frame) (p : Producer) : held p l = held p m := by
  have count (l : List QueuedFrame) : held p l = ((l.map QueuedFrame.frame).filter (fun f => Body.producer f.body == some p)).length := by
    simp only [held, List.filter_map, List.length_map]
    rfl
  rw [count, count, h]

theorem forall_frames {l m : List QueuedFrame} (e : l.map QueuedFrame.frame = m.map QueuedFrame.frame) {P : Frame → Prop}
    (h : ∀ q ∈ m, P q.frame) : ∀ q ∈ l, P q.frame := fun q hq => by
  have : q.frame ∈ m.map QueuedFrame.frame := e ▸ List.mem_map_of_mem hq
  obtain ⟨r, hr, e⟩ := List.mem_map.mp this
  exact e ▸ h r hr

/-- The bus unit puts one frame on the line (R150). -/
def startFrame (l : List QueuedFrame) : List QueuedFrame := updateFirst (isNext l) (fun q => { q with onLine := true }) l

theorem startFrame_frames (l : List QueuedFrame) : (startFrame l).map QueuedFrame.frame = l.map QueuedFrame.frame :=
  map_updateFirst (by intros; rfl) l

theorem startFrame_onLine {l : List QueuedFrame} (hl : l.filter QueuedFrame.onLine = []) :
    ((startFrame l).filter QueuedFrame.onLine).length ≤ 1 := by
  unfold startFrame
  generalize isNext l = p
  induction l with
  | nil => simp [updateFirst]
  | cons x l ih =>
    obtain ⟨hx, hl⟩ : x.onLine = false ∧ l.filter QueuedFrame.onLine = [] := by
      cases hx : x.onLine <;> simp_all
    unfold updateFirst
    split
    · simp [hl]
    · simpa [hx] using ih hl

theorem txStart_keeps (s : State) : Keeps s (txStart s) := by
  unfold txStart
  split
  next hc =>
    have free : onLineFrames s.bus = [] := by simpa [lineFree] using (Bool.and_eq_true_iff.mp hc).2
    obtain ⟨none, flushed⟩ := List.append_eq_nil_iff.mp free
    have frames := startFrame_frames s.bus.queue
    refine KeepsBut.keeps (X := .queue) (keepsBut_bus id) fun ⟨h1, h2, _, h4, h5, h6, h7, h8⟩ => ?_
    refine ⟨forall_frames frames (P := fun f => (Body.producer f.body).isSome) h1, fun p hp => (held_of_frames frames p).trans_le (h2 p hp), ?_,
      h4, h5, h6, h7.imp_right (.imp_right fun h7 => by simp [h7, updateFirst]),
      fun hm => forall_frames frames (P := fun f => Body.producer f.body = some .roster) (h8 hm)⟩
    simpa [onLineFrames, flushed, startFrame] using startFrame_onLine none
  · exact .refl s

end

end Sys2Proof.Machine
end
section
/-! The life of the station keeps the laws. -/

namespace Sys2Proof.Machine

open Sys2Proof.Safety

/-! The image and the table at load -/

theorem Map.wf_foldl_set {α : Type} (v : α) (l : List Nat) {m : Map α} (h : Map.wf m) : Map.wf (l.foldl (fun t k => Map.set t k v) m) := by
  induction l generalizing m with
  | nil => exact h
  | cons k l ih => exact ih (Map.wf_set h k v)

theorem Map.find_foldl_set {α : Type} (v : α) (l : List Nat) (m : Map α) (j : Nat) :
    Map.find (l.foldl (fun t k => Map.set t k v) m) j = if j ∈ l then some v else Map.find m j := by
  induction l generalizing m with
  | nil => simp
  | cons k l ih =>
    rw [List.foldl_cons, ih, Map.find_set]
    by_cases hl : j ∈ l <;> by_cases hk : j = k <;> simp [hl, hk]

theorem Map.mem_foldl_set {α : Type} {v : α} {l : List Nat} {m : Map α} {p : Nat × α}
    (h : p ∈ l.foldl (fun t k => Map.set t k v) m) : p.2 = v ∨ p ∈ m := by
  induction l generalizing m with
  | nil => exact .inr h
  | cons k l ih =>
    rcases ih h with h | h
    · exact .inl h
    · exact (Map.mem_set_cases h).imp (congrArg Prod.snd) id

theorem pinnedKeys_lt (c : Settings) : ∀ k ∈ pinnedKeys c, k < 256 := by
  intro k hk
  rcases List.mem_append.mp hk with hk | hk
  · obtain ⟨i, hi, rfl⟩ := List.mem_map.mp hk
    have := mem_setList hi
    have := c.own.isLt
    simp only [keyIx]
    omega
  · obtain ⟨w, -, hk⟩ := List.mem_flatMap.mp hk
    unfold sourcesOf at hk
    split at hk
    · simp only [List.mem_singleton] at hk
      exact hk ▸ keyIx_lt _ _
    · simp only [List.mem_cons, List.not_mem_nil, or_false] at hk
      rcases hk with rfl | rfl <;> exact keyIx_lt _ _

theorem check_of_sound {b : List Byte} (h : imageFault b = none) : ∀ c ∈ rangeChecks b, c.2 = true := by
  unfold imageFault at h
  split at h
  · simp at h
  · split at h
    · simp at h
    · simpa using h

theorem pinnedTable_length {b : List Byte} (h : imageFault b = none) : (pinnedTable (settingsOf b)).length ≤ 40 := by
  have := check_of_sound h (28, decide (pinnedCount b ≤ 40)) (by simp [rangeChecks])
  exact of_decide_eq_true this

/-! Leaving JOINING and ACTIVE -/

theorem bump_queriesDropped_foldl (l : List PendingQuery) (s : State) :
    l.foldl (fun s _ => bump .queriesDropped s) s =
      { s with counters := { s.counters with queriesDropped := (satInc^[l.length]) s.counters.queriesDropped } } := by
  induction l generalizing s with
  | nil => rfl
  | cons q l ih =>
    rw [List.foldl_cons, ih]
    rfl

/-- The alert unit after the flush (R161): no item of it has a frame in the transmit queue. -/
def AlertUnit.withoutFrames (u : AlertUnit) : AlertUnit :=
  { u with
    queue := u.queue.map (fun r => { r with frame := none })
    finals := u.finals.map (fun f => { f with frame := none }) }

/-- The bus unit after the flush (R161). -/
def BusUnit.emptied (b : BusUnit) : BusUnit := { b with queue := [], refusals := [], flushed := (onLineFrames b).head? }

/-- The station after it has left ACTIVE (R170). -/
theorem leaveActive_eq (s : State) :
    leaveActive s = { s with
      station := { s.station with clearing := none }
      sweeps := { s.sweeps with call := none }
      alerts := { AlertUnit.withoutFrames s.alerts with timer := none }
      roster := { s.roster with presence := none, due := false }
      converter := Converter.proceed { s.converter with peers := [], sweep := none, hold := none }
      requester := { s.requester with wanted := [], holdOffs := [], pending := [] }
      queries := []
      bus := BusUnit.emptied s.bus
      counters := { s.counters with queriesDropped := (satInc^[s.queries.length]) s.counters.queriesDropped } } := by
  simp only [leaveActive, dropQueries, bump_queriesDropped_foldl]
  rfl

/-- The station after it has left JOINING for another state than ACTIVE (R142, R161, R172). -/
theorem leaveJoining_eq (s : State) :
    leaveJoining s = { s with
      station := { s.station with joinWait := none }
      alerts := AlertUnit.withoutFrames s.alerts
      roster := { s.roster with presence := none, due := false }
      bus := BusUnit.emptied s.bus } := rfl

/-- The laws that speak of one block, and follow its own operations through a change of the station state. -/
abbrev OfBlock (L : Law) : Prop := L ≠ .life ∧ L ≠ .service ∧ L ≠ .queue

section
variable {L : Law} {s : State}

theorem flush_holds (hL : OfBlock L) (h : L.Holds s) : L.Holds (flush s) := by
  refine (alertFramesFlushed_keeps _).holds L ?_
  obtain ⟨h1, h2, h3⟩ := hL
  cases L
  case life | service | queue => contradiction
  all_goals exact h

theorem leaveActive_holds (hL : OfBlock L) (h : L.Holds s) : L.Holds (leaveActive s) := by
  have stopped : L.Holds { s with
      station := { s.station with clearing := none }
      sweeps := { s.sweeps with call := none }
      alerts := { s.alerts with timer := none }
      roster := { s.roster with presence := none } } := by
    obtain ⟨h1, h2, h3⟩ := hL
    cases L
    case life | service | queue => contradiction
    all_goals exact h
  refine flush_holds hL ((dropQueries_keeps _).holds L ?_)
  refine holds_requester (fun _ => requesterLaw_of_sublist ?_ ?_ (by simp) (by simp) (by simp)) (fun e => absurd e hL.2.1)
    ((purgeConverter_keeps _).holds L stopped) <;> simp

theorem leaveJoining_holds (hL : OfBlock L) (h : L.Holds s) : L.Holds (leaveJoining s) := by
  refine flush_holds hL ?_
  obtain ⟨h1, h2, h3⟩ := hL
  cases L
  case life | service | queue => contradiction
  all_goals exact h

theorem leave_holds (b : Bool) (hL : OfBlock L) (h : L.Holds s) : L.Holds (leave b s) := by
  cases b
  · exact leaveJoining_holds hL h
  · exact leaveActive_holds hL h

/-- Another state than JOINING and ACTIVE, entered from one of these two. -/
theorem toMode_holds {m : Mode} (hw : s.works = true) (hL : OfBlock L) (h : L.Holds s) : L.Holds (toMode m s) := by
  obtain ⟨h1, h2, h3⟩ := hL
  cases L
  case life | service | queue => contradiction
  case roster => exact ⟨h.1, h.2.1, fun _ => h.2.2 hw⟩
  case sweep => exact ⟨h.1, h.2.1, h.2.2.1, fun _ => h.2.2.2 fun e => by simp [State.works, e] at hw⟩
  all_goals exact h

theorem enterSilenced_of_active (ha : s.station.mode = .active) (reason : ReleaseReason) (ms : Nat) :
    enterSilenced reason ms s = { leaveActive s with
      station := { s.station with mode := .silenced, clearing := none, release := some ms, releaseReason := some reason } } := by
  simp only [enterSilenced, leave, (isActive_iff s).mpr ha, if_true, leaveActive_eq]
  rfl

theorem enterSilenced_of_joining (hj : s.station.mode = .joining) (reason : ReleaseReason) (ms : Nat) :
    enterSilenced reason ms s = { leaveJoining s with
      station := { s.station with mode := .silenced, joinWait := none, release := some ms, releaseReason := some reason } } := by
  have : s.isActive = false := by simp [State.isActive, hj]
  simp only [enterSilenced, leave, this, leaveJoining_eq]
  rfl

/-- Nothing is held for the plant once ACTIVE is left (R28, R135, R161, R176). -/
theorem leaveActive_unserved (s : State) : Unserved (leaveActive s).converter ∧ (leaveActive s).requester.wanted = [] ∧
    (leaveActive s).requester.holdOffs = [] ∧ (leaveActive s).requester.pending = [] ∧ (leaveActive s).queries = [] ∧
    (leaveActive s).bus.refusals = [] := by
  rw [leaveActive_eq]
  exact ⟨proceed_unserved ⟨rfl, rfl, rfl⟩, rfl, rfl, rfl, rfl, rfl⟩

/-- A flushed transmit queue keeps the quotas in every station state. -/
theorem queueLaw_emptied {t : State} (hb : t.bus = BusUnit.emptied s.bus) (h : QueueLaw s) : QueueLaw t := by
  obtain ⟨-, -, -, -, he, -⟩ := h
  have hq : t.bus.queue = [] := by rw [hb]; rfl
  have hr : t.bus.refusals = [] := by rw [hb]; rfl
  refine ⟨by simp [hq], fun p _ => by simp [hq, held], ?_, by simp [hr], by rw [hb]; exact he, .inr hr, .inr (.inr hq), by simp [hq]⟩
  rw [hb]
  cases hl : onLineFrames s.bus <;> simp [onLineFrames, BusUnit.emptied]

theorem not_ofBlock (h : ¬ OfBlock L) : L = .life ∨ L = .service ∨ L = .queue := by
  by_contra hn
  exact h (by simpa using hn)

/-- Entry into SILENCED from JOINING or ACTIVE (R171). -/
theorem enterSilenced_keeps (hm : s.station.mode = .joining ∨ s.station.mode = .active) (reason : ReleaseReason) (ms : Nat) :
    Keeps s (enterSilenced reason ms s) := by
  have hw : s.works = true := by rcases hm with hm | hm <;> simp [State.works, hm]
  refine ⟨fun L h => ?_⟩
  by_cases hL : OfBlock L
  · have left := leave_holds s.isActive hL (toMode_holds (m := .silenced) hw hL h)
    obtain ⟨h1, h2, h3⟩ := hL
    cases L
    case life | service | queue => contradiction
    all_goals exact left
  rcases hm with hj | ha
  · rw [enterSilenced_of_joining hj, leaveJoining_eq]
    rcases not_ofBlock hL with rfl | rfl | rfl
    · obtain ⟨h1, -, -, -, h5, h6, h7, -, -⟩ := h
      rw [hj] at h1 h5 h6 h7
      exact ⟨by simpa using h1, by simp, by simp, by simp, by simpa using h5, by simpa using h6, by simpa [AlertUnit.withoutFrames] using h7,
        by simp, by simp⟩
    · rcases h with hm | ⟨h1, h2, h3, h4, h5, h6, h7, -⟩
      · exact absurd (hj.symm.trans hm) (by decide)
      · exact .inr ⟨h1, h2, h3, h4, h5, h6, h7, rfl⟩
    · exact queueLaw_emptied rfl h
  · rw [enterSilenced_of_active ha]
    rcases not_ofBlock hL with rfl | rfl | rfl
    · obtain ⟨h1, h2, -⟩ := h
      rw [ha] at h1 h2
      rw [leaveActive_eq]
      exact ⟨by simpa using h1, by simpa using h2, by simp, by simp, by simp, by simp, by simp, by simp, by simp⟩
    · obtain ⟨⟨e1, e2, e3⟩, e⟩ := leaveActive_unserved s
      exact .inr ⟨e1, e2, e3, e⟩
    · exact queueLaw_emptied (by rw [leaveActive_eq]) h

/-! FAULT -/

/-- A group whose asserter map is empty is not in alarm (R113). -/
theorem clearAsserters_active (g : Group) : (clearAsserters g).active = false := by
  simp [clearAsserters, Group.recompute]

theorem faulted_groups (u : AlertUnit) : ∀ g ∈ (AlertUnit.faulted u).groups, g.asserters = [] ∧ g.active = false := by
  simp only [AlertUnit.faulted, List.mem_map]
  rintro _ ⟨g, -, rfl⟩
  exact ⟨rfl, clearAsserters_active g⟩

theorem groupLaw_faulted {t : State} {u : AlertUnit} (h : t.alerts = AlertUnit.faulted u) : GroupLaw t := by
  simp only [GroupLaw, h]
  have quiet (p : Group → Bool) : (AlertUnit.faulted u).groups.any (fun g => g.active && p g) = false :=
    List.any_eq_false.mpr fun g hg => by simp [faulted_groups u g hg]
  refine ⟨fun g hg => ?_, (quiet _).symm, (quiet _).symm⟩
  obtain ⟨he, ha⟩ := faulted_groups u g hg
  simp [he, ha, Map.wf, Map.keys]

theorem lifeLaw_enterFault (code : FaultCode) (s : State) : LifeLaw (enterFault code s) := by
  simp [LifeLaw, enterFault, AlertUnit.faulted]

theorem serviceLaw_enterFault (code : FaultCode) (s : State) : ServiceLaw (enterFault code s) := .inr ⟨rfl, rfl, rfl, rfl, rfl, rfl, rfl, rfl⟩

theorem queueLaw_enterFault (code : FaultCode) (he : s.bus.errors ≤ errorLimit) : QueueLaw (enterFault code s) :=
  ⟨by simp [enterFault], fun _ _ => Nat.zero_le _, Nat.zero_le _, Nat.zero_le _, he, .inr rfl, .inr (.inr rfl), by simp [enterFault]⟩

theorem enterFault_keeps (code : FaultCode) (s : State) : Keeps s (enterFault code s) := by
  refine ⟨fun L h => ?_⟩
  cases L
  case life => exact lifeLaw_enterFault code s
  case service => exact serviceLaw_enterFault code s
  case queue =>
    obtain ⟨-, -, -, -, he, -⟩ := h
    exact queueLaw_enterFault code he
  case converter => simp [Law.Holds, ConverterLaw, enterFault, Converter.empty, peerCauses]
  case requester => simp [Law.Holds, RequesterLaw, enterFault]
  case table => simp [Law.Holds, TableLaw, enterFault, Map.wf, Map.keys]
  case roster => simp [Law.Holds, RosterLaw, enterFault, Map.wf, Map.keys, State.works]
  case sweep => exact ⟨h.1, h.2.1, h.2.2.1, fun hm => absurd rfl hm⟩
  case alert => simp [Law.Holds, AlertLaw, enterFault, AlertUnit.faulted]
  case group => exact groupLaw_faulted rfl
  case reached => exact h

/-- The station leaves JOINING or ACTIVE after it has entered FAULT (log entry 20). -/
theorem leave_enterFault_keeps (b : Bool) (code : FaultCode) (s : State) : Keeps (enterFault code s) (leave b (enterFault code s)) := by
  refine ⟨fun L h => ?_⟩
  by_cases hL : OfBlock L
  · exact leave_holds b hL h
  rcases b with _ | _
  · simp only [leave, Bool.false_eq_true, if_false, leaveJoining_eq]
    rcases not_ofBlock hL with rfl | rfl | rfl
    · simp [Law.Holds, LifeLaw, enterFault, AlertUnit.faulted, AlertUnit.withoutFrames]
    · exact .inr ⟨rfl, rfl, rfl, rfl, rfl, rfl, rfl, rfl⟩
    · exact queueLaw_emptied rfl h
  · simp only [leave, if_true]
    rcases not_ofBlock hL with rfl | rfl | rfl
    · simp [leaveActive_eq, Law.Holds, LifeLaw, enterFault]
    · obtain ⟨⟨e1, e2, e3⟩, e⟩ := leaveActive_unserved (enterFault code s)
      exact .inr ⟨e1, e2, e3, e⟩
    · exact queueLaw_emptied (by rw [leaveActive_eq]) h

/-- The station enters FAULT after it has left JOINING or ACTIVE (log entry 20). -/
theorem enterFault_leave_holds {L : Law} {s : State} (b : Bool) (code : FaultCode) (hw : s.works = true) (h : L.Holds s) :
    L.Holds (enterFault code (leave b (toMode .fault s))) := by
  by_cases hL : OfBlock L
  · exact (enterFault_keeps code _).holds L (leave_holds b hL (toMode_holds hw hL h))
  · have he : (leave b (toMode .fault s)).bus.errors = s.bus.errors := by
      cases b
      · rfl
      · simp [leave, leaveActive_eq, BusUnit.emptied, toMode]
    rcases not_ofBlock hL with rfl | rfl | rfl
    · exact lifeLaw_enterFault ..
    · exact serviceLaw_enterFault ..
    · obtain ⟨-, -, -, -, hs, -⟩ := h
      exact queueLaw_enterFault code (he ▸ hs)

theorem keeps_conflicts (s : State) (n : Nat) : Keeps s { s with station := { s.station with conflicts := n } } := by
  refine ⟨fun L hL => ?_⟩
  cases L <;> exact hL

/-- The third conflict (R172). -/
theorem conflictFault_keeps (b : Bool) (code : FaultCode) (hw : s.works = true) :
    Keeps s (eitherFirst (leave b) (enterFault code) (toMode .fault s)) := by
  refine ⟨fun L h => ?_⟩
  have drawn := (keeps_draws s (s.draws + 1)).holds L h
  exact eitherFirst_induct (P := L.Holds) (enterFault_leave_holds (s := { s with draws := s.draws + 1 }) b code hw drawn)
    ((leave_enterFault_keeps b code { s with draws := s.draws + 1 }).holds L ((enterFault_keeps code _).holds L drawn))

theorem addressConflict_keeps (s : State) : Keeps s (addressConflict s) := by
  simp only [addressConflict]
  split
  next hm =>
    have hm : s.station.mode = .joining ∨ s.station.mode = .active := by
      simpa [State.isActive] using hm
    refine Keeps.trans (keeps_conflicts s (s.station.conflicts + 1)) ?_
    split
    · refine conflictFault_keeps s.isActive .addressConflict ?_
      rcases hm with hm | hm <;> simp [State.works, hm]
    · refine enterSilenced_keeps ?_ ..
      exact hm
  · exact .refl s

end

/-! JOINING and ACTIVE -/

/-- What the entry into JOINING changes before its PRESENCE is placed (R169). -/
def joining (s : State) : State :=
  { s with
    station := { s.station with
      mode := .joining, joinWait := some (2 * periodMs s.cfg.presence), release := none, releaseReason := none }
    roster := { s.roster with presence := some (periodMs s.cfg.presence) }
    bus := { s.bus with errors := 0 } }

theorem enterJoining_eq (s : State) : enterJoining s = placePresence (joining s) := rfl

theorem enterJoining_holds {L : Law} {s : State} (hm : s.station.mode = .loading ∨ s.station.mode = .silenced)
    (hself : L = .roster → s.roster.self = some s.own) (h : L.Holds s) : L.Holds (enterJoining s) := by
  rw [enterJoining_eq]
  refine (placePresence_keeps (.inr rfl)).holds L ?_
  have idle : s.station.mode ≠ .joining ∧ s.station.mode ≠ .active ∧ s.station.mode ≠ .fault := by
    rcases hm with hm | hm <;> simp [hm]
  obtain ⟨n1, n2, n3⟩ := idle
  cases L
  case life =>
    obtain ⟨h1, h2, h3, h4, h5, h6, h7, h8, h9⟩ := h
    simp only [n2, n3, iff_false, false_and, imp_false] at h1 h5 h6 h7
    exact ⟨by simpa [joining] using h1, by simp [joining], by simp [joining], by simp [joining], by simpa [joining] using h5,
      by simpa [joining] using h6, by simpa [joining] using h7, by simp [joining], by simp [joining]⟩
  case service => exact .inr (h.resolve_left n2)
  case queue =>
    obtain ⟨h1, h2, h3, h4, h5, h6, h7, h8⟩ := h
    have empty : s.bus.queue = [] := (h7.resolve_left n2).resolve_left n1
    exact ⟨h1, h2, h3, h4, Nat.zero_le _, .inr (h6.resolve_left n2), .inr (.inl rfl), by simp [joining, empty]⟩
  case roster => exact ⟨h.1, h.2.1, fun _ => hself rfl⟩
  case sweep => exact ⟨h.1, h.2.1, h.2.2.1, fun _ => h.2.2.2 n3⟩
  all_goals exact h

theorem releaseExpiry_keeps (s : State) : Keeps s (releaseExpiry s) := by
  unfold releaseExpiry
  split
  next h =>
    have hm : s.station.mode = .silenced := by simpa using (Bool.and_eq_true_iff.mp h).2
    refine ⟨fun L h => enterJoining_holds (.inr hm) (fun e => ?_) h⟩
    subst e
    exact h.2.2 (by simp [State.works, hm])
  · exact .refl s

/-- What the entry into ACTIVE changes before the announcements (R169). -/
def activated (s : State) : State :=
  { s with
    station := { s.station with mode := .active, joinWait := none, clearing := some clearingMs }
    sweeps := { s.sweeps with call := if s.cfg.sweepPeriod = 0 then none else some (callDuration s.cfg) }
    alerts := { s.alerts with timer := some s.cfg.alertRepeat } }

theorem enterActive_eq (s : State) : enterActive s = eitherFirst announceStale announce (activated s) := rfl

theorem activated_keeps {s : State} (hm : s.station.mode = .joining) : Keeps s (activated s) := by
  refine ⟨fun L h => ?_⟩
  cases L
  case life =>
    obtain ⟨h1, h2, h3, h4, h5, h6, h7, h8, h9⟩ := h
    simp only [hm] at h1 h3 h4 h8
    refine ⟨by simpa [activated] using h1, by simp [activated], by simpa [activated] using h3, by simpa [activated] using h4,
      by simp [activated], ?_, by simp [activated], by simpa [activated] using h8, by simp [activated]⟩
    by_cases hp : s.cfg.sweepPeriod = 0
    · simp only [activated, hp, if_true]
      simpa [State.cfg] using hp
    · simp only [activated, hp, if_false]
      simpa [State.cfg] using hp
  case service => exact .inl rfl
  case queue =>
    obtain ⟨h1, h2, h3, h4, h5, h6, h7, h8⟩ := h
    exact ⟨h1, h2, h3, h4, h5, .inl rfl, .inl rfl, by simp [activated]⟩
  case roster => exact ⟨h.1, h.2.1, fun _ => h.2.2 (by simp [State.works, hm])⟩
  case sweep => exact ⟨h.1, h.2.1, h.2.2.1, fun _ => h.2.2.2 (by simp [hm])⟩
  all_goals exact h

theorem joinWaitExpiry_keeps (s : State) : Keeps s (joinWaitExpiry s) := by
  unfold joinWaitExpiry
  split
  next h =>
    have hm : s.station.mode = .joining := by simpa using (Bool.and_eq_true_iff.mp h).2
    have entered := (activated_keeps hm).trans (keeps_draws _ (s.draws + 1))
    exact eitherFirst_induct (P := Keeps s) ((entered.trans (announceStale_keeps rfl)).trans (announce_keeps _))
      ((entered.trans (announce_keeps _)).trans (announceStale_keeps (by simp [activated])))
  · exact .refl s

theorem clearingExpiry_keeps (s : State) : Keeps s (clearingExpiry s) := by
  unfold clearingExpiry
  split
  · refine ⟨fun L h => ?_⟩
    cases L
    case life =>
      obtain ⟨h1, h2, h3, h4, h5, h6⟩ := h
      exact ⟨h1, h2, h3, h4, by simp, h6⟩
    all_goals exact h
  · exact .refl s

/-! Loading -/

theorem rstnHigh_keeps (s : State) : Keeps s (rstnHigh s) := by
  refine ⟨fun L h => ?_⟩
  simp only [rstnHigh]
  split
  next hm =>
    cases L
    case life => simpa [Law.Holds, LifeLaw, hm] using h
    case service => exact .inr (h.resolve_left (by simp [hm]))
    case queue =>
      obtain ⟨h1, h2, h3, h4, h5, h6, h7, h8⟩ := h
      simp only [hm, reduceCtorEq, false_or] at h6 h7
      exact ⟨h1, h2, h3, h4, h5, .inr h6, .inr (.inr h7), by simp⟩
    case roster => exact ⟨h.1, h.2.1, by simp [State.works]⟩
    case sweep => exact ⟨h.1, h.2.1, h.2.2.1, fun _ => h.2.2.2 (by simp [hm])⟩
    all_goals exact h
  · cases L <;> exact h

/-- What the completed load changes before the entry into JOINING (R168). -/
def loaded (bytes : List Byte) (s : State) : State :=
  let c := settingsOf bytes
  { s with
    station := { s.station with image := some { bytes := bytes, settings := c }, reading := [] }
    trigger := { s.trigger with accepted := if c.triggerSet = 0 then none else some s.trigger.line }
    cadence := { s.cadence with timer := c.cadence }
    table := pinnedTable c
    watches := c.watches.map (fun _ => WatchRun.initial)
    alerts := AlertUnit.driveLines { s.alerts with groups := c.groups.map Group.ofConfig }
    roster := { s.roster with self := some c.own } }

theorem loadComplete_eq (bytes : List Byte) (s : State) : loadComplete bytes s = enterJoining (loaded bytes s) := rfl

theorem groupSettled_ofConfig (g : GroupConfig) : GroupSettled (Group.ofConfig g) := by
  simp [GroupSettled, Group.ofConfig, Map.wf, Map.keys]

theorem loaded_keeps {bytes : List Byte} {s : State} (hm : s.station.mode = .loading) (hb : imageFault bytes = none) :
    Keeps s (loaded bytes s) := by
  refine ⟨fun L h => ?_⟩
  cases L
  case life =>
    obtain ⟨h1, h2, h3, h4, h5, h6, h7, h8, h9⟩ := h
    simp only [hm, reduceCtorEq, false_and, iff_false] at h6
    exact ⟨h1, h2, h3, h4, h5, by simpa [loaded, hm] using h6, h7, h8, h9⟩
  case requester =>
    obtain ⟨h1, h2, h3, h4, -, h6⟩ := h
    refine ⟨h1, h2, h3, h4, fun p hp => ?_, h6⟩
    exact Map.keys_foldl_set_lt (pinnedKeys_lt _) (by simp) p hp
  case table =>
    refine ⟨Map.wf_foldl_set _ _ (by simp [Map.wf, Map.keys]), (pinnedTable_length hb).trans (by decide), fun p hp => ?_⟩
    rcases Map.mem_foldl_set hp with e | hp
    · simp [e, EntryLaw, Entry.pinnedNew]
    · simp at hp
  case roster => exact ⟨h.1, h.2.1, by simp [State.works, loaded, hm]⟩
  case group => exact groupLaw_driveLines (s := s) (List.forall_mem_map.mpr fun g _ => groupSettled_ofConfig g)
  all_goals exact h

theorem keeps_reading (s : State) (l : List Byte) : Keeps s { s with station := { s.station with reading := l } } := by
  refine ⟨fun L hL => ?_⟩
  cases L <;> exact hL

theorem configByteGiven_keeps (b : Byte) (s : State) : Keeps s (configByteGiven b s) := by
  simp only [configByteGiven]
  split
  next hm =>
    refine Keeps.trans (keeps_reading s (s.station.reading ++ [b])) ?_
    split
    · unfold validate
      split
      · exact enterFault_keeps ..
      next hb =>
        refine Keeps.trans (loaded_keeps hm hb) ?_
        exact ⟨fun L h => enterJoining_holds (.inl hm) (fun _ => rfl) h⟩
    · exact .refl _
  · exact .refl s

theorem configByteUngiven_keeps (s : State) : Keeps s (configByteUngiven s) := by
  unfold configByteUngiven
  split
  · exact enterFault_keeps ..
  · exact .refl s

end Sys2Proof.Machine
end
section
/-! Every command but a reset keeps the laws, and a reset leaves the state after reset, which has them. -/

namespace Sys2Proof.Machine

open Sys2Proof.Safety

/-! The line, with what station control makes of it -/

theorem reportErrors_keeps (s : State) : Keeps s (reportErrors s) := by
  unfold reportErrors
  split
  next h => exact enterSilenced_keeps (.inr ((isActive_iff s).mp (Bool.and_eq_true_iff.mp h).2)) ..
  · exact .refl s

theorem transmitError_keeps (s : State) : Keeps s (transmitError s) := by
  unfold transmitError
  split
  next hq => exact ((raiseErrors_keeps s).trans (erroredFrame_keeps (s := raiseErrors s) hq)).trans (reportErrors_keeps _)
  · exact .refl s

theorem keyFieldConflict_keeps (s : State) : Keeps s (keyFieldConflict s) := by
  unfold keyFieldConflict
  split
  · exact (frameReturned_keeps (fun _ => rfl) ..).trans (addressConflict_keeps _)
  · exact .refl s

/-! Time and the local inputs -/

@[simp] theorem isSome_tick (t : Timer) : (tick t).isSome = t.isSome := by simp [tick]

theorem Map.forall_mapRecords {α : Type} {g : Nat → α → α} {m : Map α} {P : Nat × α → Prop} (h : ∀ p ∈ m, P (p.1, g p.1 p.2)) :
    ∀ q ∈ Map.mapRecords g m, P q := List.forall_mem_map.mpr h

theorem tickAll_keeps (s : State) : Keeps s (tickAll s) := by
  refine ⟨fun L h => ?_⟩
  cases L
  case life => simpa [Law.Holds, LifeLaw, tickAll, State.cfg] using h
  case service => simpa [Law.Holds, ServiceLaw, tickAll, Map.mapRecords] using h
  case requester =>
    obtain ⟨h1, h2, h3, h4, h5, h6, h7⟩ := h
    simp only [Law.Holds, RequesterLaw, tickAll]
    exact ⟨by simpa using h1, by simpa [Function.comp_def] using h2, by simpa [Function.comp_def] using h3, by simpa using h4,
      Map.forall_mapRecords h5, Map.forall_mapRecords h6, h7⟩
  case table =>
    obtain ⟨h1, h2, h3⟩ := h
    simp only [Law.Holds, TableLaw, tickAll]
    refine ⟨Map.wf_mapRecords h1 _, by simpa [Map.mapRecords] using h2, Map.forall_mapRecords fun p hp => ?_⟩
    simpa [EntryLaw] using h3 p hp
  case roster =>
    obtain ⟨h1, h2, h3⟩ := h
    simp only [Law.Holds, RosterLaw, tickAll]
    refine ⟨Map.wf_mapRecords h1 _, Map.forall_mapRecords fun p hp => ?_, h3⟩
    simpa [SlotLaw] using h2 p hp
  case sweep => simpa [Law.Holds, SweepLaw, tickAll, openTally] using h
  all_goals exact h

theorem keeps_time {s : State} {n : Time} (hw : s.works = true) : Keeps s { s with time := n } := by
  refine ⟨fun L h => ?_⟩
  cases L
  case life =>
    obtain ⟨h1, h2, h3, h4, h5, h6, h7, h8, -⟩ := h
    refine ⟨h1, h2, h3, h4, h5, h6, h7, h8, ?_⟩
    rintro (hm | hm) <;> simp only at hm <;> simp [State.works, hm] at hw
  all_goals exact h

theorem timeAdvance_keeps (s : State) : Keeps s (timeAdvance s) := by
  unfold timeAdvance
  split
  next hw => exact (keeps_time hw).trans (tickAll_keeps _)
  · exact .refl s

theorem acceptLevel_keeps (l : Level) (s : State) : Keeps s (acceptLevel l s) := by
  simp only [acceptLevel]
  split
  · refine Keeps.trans ?_ (offerTrigger_keeps ..)
    exact keeps_trigger s _
  · exact keeps_trigger s _

theorem trgChange_keeps (l : Level) (s : State) : Keeps s (trgChange l s) := by
  have line := keeps_trigger s { s.trigger with line := l }
  simp only [trgChange]
  repeat' split
  all_goals first | exact line | exact line.trans (keeps_trigger _ _) | exact line.trans (acceptLevel_keeps ..)

theorem debounceExpiry_keeps (s : State) : Keeps s (debounceExpiry s) := by
  unfold debounceExpiry
  split
  · split
    · exact acceptLevel_keeps ..
    · exact .refl s
  · exact .refl s

theorem cadenceTick_keeps (s : State) : Keeps s (cadenceTick s) := by
  simp only [cadenceTick]
  split
  · refine Keeps.trans ?_ (offerCadence_keeps ..)
    exact keeps_cadence s _
  · exact .refl s

/-! Receiving -/

theorem dispatch_keeps (f : Frame) (s : State) : Keeps s (dispatch f s) := by
  unfold dispatch
  split
  · exact .refl s
  · exact takeSweep_keeps ..
  · exact takeMeasure_keeps ..
  · exact (applyBatch_keeps ..).trans (sweepResult_keeps ..)
  · exact takeRefuse_keeps ..
  · exact takeAlert_keeps ..
  · exact takeAck_keeps ..
  · exact takeQuery_keeps ..
  · exact bump_keeps ..

theorem dispatchRequester_keeps (f : Frame) (s : State) : Keeps s (dispatchRequester f s) := by
  unfold dispatchRequester
  split
  · exact requesterResult_keeps ..
  all_goals exact .refl s

theorem dispatchUnconfigured_keeps (f : Frame) (s : State) : Keeps s (dispatchUnconfigured f s) := by
  unfold dispatchUnconfigured
  split
  · exact takeMeasure_keeps ..
  · exact takeQuery_keeps ..
  all_goals exact .refl s

theorem takeValid_keeps (f : Frame) (s : State) : Keeps s (takeValid f s) := by
  unfold takeValid
  split
  · have r (s : State) := hear_keeps f.src f.body s
    have d (s : State) := dispatch_keeps f s
    have q (s : State) := dispatchRequester_keeps f s
    have drawn := keeps_draws s (s.draws + 1)
    exact anyOrder_induct (P := Keeps s) rfl (((drawn.trans (r _)).trans (d _)).trans (q _)) (((drawn.trans (r _)).trans (q _)).trans (d _))
      (((drawn.trans (d _)).trans (r _)).trans (q _)) (((drawn.trans (d _)).trans (q _)).trans (r _))
      (((drawn.trans (q _)).trans (r _)).trans (d _)) (((drawn.trans (q _)).trans (d _)).trans (r _))
  · exact hear_keeps ..

theorem receive_keeps (f : Frame) (s : State) : Keeps s (receive f s) := by
  unfold receive
  split
  · exact .refl s
  · split
    · exact bump_keeps ..
    · split
      · exact dispatchUnconfigured_keeps ..
      · split
        · exact addressConflict_keeps s
        · exact takeValid_keeps ..

theorem receiveBytes_keeps (bytes : List Byte) (s : State) : Keeps s (receiveBytes bytes s) := by
  unfold receiveBytes
  split
  · exact .refl s
  · split
    · exact bump_keeps ..
    · exact bump_keeps ..
    · exact receive_keeps ..

/-! Commands and resets -/

theorem key_ix_lt (k : Key) : Key.ix k < 256 := keyIx_lt k.station k.channel

theorem keeps_of_next {s t u : State} (h : Keeps s u) (e : (.next u : Host.Outcome State Fault Refusal) = .next t) : Keeps s t :=
  Host.Outcome.next.inj e ▸ h

/-- What every command but a reset keeps. -/
theorem exec_keeps {s t : State} {c : Instr} (hp : c ≠ .powerOnReset) (hl : c ≠ .lineReset) (h : exec c s = .next t) : Keeps s t := by
  cases c
  case powerOnReset | lineReset => contradiction
  case rstnHigh => exact keeps_of_next (rstnHigh_keeps s) h
  case configByteGiven b => exact keeps_of_next (configByteGiven_keeps b s) h
  case configByteUngiven => exact keeps_of_next (configByteUngiven_keeps s) h
  case timeBaseAdvance => exact keeps_of_next (timeAdvance_keeps s) h
  case trgChange l => exact keeps_of_next (trgChange_keeps l s) h
  case debounceExpiry => exact keeps_of_next (debounceExpiry_keeps s) h
  case cadenceTick => exact keeps_of_next (cadenceTick_keeps s) h
  case channelCompletion s0 s1 s2 s3 => exact keeps_of_next (channelCompletion_keeps s0 s1 s2 s3 s) h
  case freshnessExpiry k => exact keeps_of_next (freshnessExpiry_keeps (key_ix_lt k) s) h
  case alertRepeatExpiry => exact keeps_of_next (alertRepeat_keeps s) h
  case callTimerExpiry => exact keeps_of_next (callExpiry_keeps s) h
  case sweepDeadlineExpiry => exact keeps_of_next (deadlineExpiry_keeps s) h
  case replyTimerExpiry tag => exact keeps_of_next (attemptWhen_keeps tag (.sent 0) s) h
  case backOffExpiry tag => exact keeps_of_next (attemptWhen_keeps tag (.backingOff 0) s) h
  case holdOffExpiry k => exact keeps_of_next (holdOffExpiry_keeps (key_ix_lt k) s) h
  case presenceTimerExpiry => exact keeps_of_next (presenceExpiry_keeps s) h
  case silentTimerExpiry a => exact keeps_of_next (silentExpiry_keeps a.toNat s) h
  case lostTimerExpiry a => exact keeps_of_next (lostExpiry_keeps a.isLt s) h
  case joinWaitExpiry => exact keeps_of_next (joinWaitExpiry_keeps s) h
  case releaseTimerExpiry => exact keeps_of_next (releaseExpiry_keeps s) h
  case conflictClearingExpiry => exact keeps_of_next (clearingExpiry_keeps s) h
  case txFrameStart => exact keeps_of_next (txStart_keeps s) h
  case sendCompletion => exact keeps_of_next (sendCompletion_keeps s) h
  case arbitrationLoss => exact keeps_of_next (arbitrationLoss_keeps s) h
  case transmitError => exact keeps_of_next (transmitError_keeps s) h
  case keyFieldConflict => exact keeps_of_next (keyFieldConflict_keeps s) h
  case flushedFrameEnd => exact keeps_of_next (flushedFrameEnd_keeps s) h
  case rxBadFrame bytes => exact keeps_of_next (receiveBytes_keeps bytes s) h
  all_goals exact keeps_of_next (receive_keeps _ s) h

/-- The laws that the state after reset keeps: every one but that counters have been reached. -/
theorem holds_reset {L : Law} (hL : ∀ low, L ≠ .reached low) : L.Holds State.reset := by
  cases L
  case reached low => exact absurd rfl (hL low)
  case life => simp [Law.Holds, LifeLaw, State.reset, SweepUnit.empty, AlertUnit.empty, Roster.empty]
  case service => exact .inr ⟨rfl, rfl, rfl, rfl, rfl, rfl, rfl, rfl⟩
  case queue => simp [Law.Holds, QueueLaw, State.reset, BusUnit.empty, held, onLineFrames]
  case converter => simp [Law.Holds, ConverterLaw, State.reset, Converter.empty, peerCauses]
  case requester => simp [Law.Holds, RequesterLaw, State.reset, Requester.empty]
  case table => simp [Law.Holds, TableLaw, State.reset, Map.wf, Map.keys]
  case roster => simp [Law.Holds, RosterLaw, State.reset, Roster.empty, Map.wf, Map.keys, State.works]
  case sweep => simp [Law.Holds, SweepLaw, NumberLaw, State.reset, SweepUnit.empty, openTally]
  case alert => simp [Law.Holds, AlertLaw, State.reset, AlertUnit.empty]
  case group => simp [Law.Holds, GroupLaw, State.reset, AlertUnit.empty, Group.unconfigured, Map.wf, Map.keys]

theorem holds_resetStation {L : Law} (hL : ∀ low, L ≠ .reached low) (cause : StartCause) (code : Option FaultCode) (high : Bool) (s : State) :
    L.Holds (resetStation cause code high s) := by
  have h := holds_reset hL
  cases L
  case reached low => exact absurd rfl (hL low)
  all_goals exact h

/-- Every step keeps every law of the station. -/
theorem step_holds {L : Law} (hL : ∀ low, L ≠ .reached low) {s t : State} (h : step s = .next t) (hs : L.Holds s) : L.Holds t := by
  unfold step at h
  split at h
  · exact Host.Outcome.next.inj h ▸ hs
  next c rest _ =>
    have hs := (keeps_pending s rest).holds L hs
    by_cases hp : c = .powerOnReset
    · subst hp
      exact Host.Outcome.next.inj h ▸ holds_resetStation hL ..
    · by_cases hl : c = .lineReset
      · subst hl
        have h := Host.Outcome.next.inj h
        subst h
        split
        · exact holds_resetStation hL ..
        · exact hs
      · exact (exec_keeps hp hl h).holds L hs

end Sys2Proof.Machine
end
section
/-! Every step keeps every law (O52 to O57), and the state after reset has them (O3). -/

namespace Sys2Proof.Machine

open Sys2Proof.Safety

/-- Settles O52: its two laws among those that every command keeps, one operation after another. -/
theorem stepsKeepLifeAndService : Obligations.StepsKeepLifeAndService :=
  fun _ _ h => ⟨step_holds (L := .life) (by simp) h, step_holds (L := .service) (by simp) h⟩

/-- Settles O53. -/
theorem stepsKeepQueue : Obligations.StepsKeepQueue := fun _ _ h => step_holds (L := .queue) (by simp) h

/-- Settles O54. -/
theorem stepsKeepConverterAndRequester : Obligations.StepsKeepConverterAndRequester :=
  fun _ _ h => ⟨step_holds (L := .converter) (by simp) h, step_holds (L := .requester) (by simp) h⟩

/-- Settles O55. -/
theorem stepsKeepTableAndRoster : Obligations.StepsKeepTableAndRoster :=
  fun _ _ h => ⟨step_holds (L := .table) (by simp) h, step_holds (L := .roster) (by simp) h⟩

/-- Settles O56. -/
theorem stepsKeepSweeps : Obligations.StepsKeepSweeps := fun _ _ h => step_holds (L := .sweep) (by simp) h

/-- Settles O57. -/
theorem stepsKeepAlertsAndGroups : Obligations.StepsKeepAlertsAndGroups :=
  fun _ _ h => ⟨step_holds (L := .alert) (by simp) h, step_holds (L := .group) (by simp) h⟩

/-- Settles O3. -/
theorem resetKeepsEveryLaw : Obligations.ResetKeepsEveryLaw :=
  ⟨holds_reset (L := .life) (by simp), holds_reset (L := .service) (by simp), holds_reset (L := .queue) (by simp),
    holds_reset (L := .converter) (by simp), holds_reset (L := .table) (by simp), holds_reset (L := .sweep) (by simp),
    holds_reset (L := .alert) (by simp), holds_reset (L := .group) (by simp), holds_reset (L := .requester) (by simp),
    holds_reset (L := .roster) (by simp)⟩

end Sys2Proof.Machine
end
section
/-! Commands, resets and the start of the load (O1, O2, O4, O12), and the station in FAULT (O58). -/

namespace Sys2Proof.Machine

open Sys2Proof.Safety

/-- Settles O1. -/
theorem stepRunsFrontCommand : Obligations.StepRunsFrontCommand := by
  refine ⟨fun s c rest h => ?_, fun s h => ?_⟩
  · simp only [step, h]
  · simp only [step, h]

/-- Settles O2. -/
theorem resetsReturnEveryBlock : Obligations.ResetsReturnEveryBlock := by
  refine fun s => ⟨rfl, fun h => ?_, fun h => ?_⟩
  · simp only [exec, execLineReset, h, if_true]
    rfl
  · simp only [exec, execLineReset, h, Bool.false_eq_true, if_false]

theorem readEnds_eq_false {b : List Byte} (h : b.length < 2 ∨ b.length < imageByte b 1) : readEnds b = false := by
  unfold readEnds
  rcases h with h | h
  · simp [Nat.not_le.mpr h]
  · simp [h]

/-- Settles O4. -/
theorem loadStartsAndReadsBytes : Obligations.LoadStartsAndReadsBytes := by
  refine fun s b => ⟨fun hm => ?_, fun hm h => ?_⟩
  · simp only [exec, execRstnHigh, rstnHigh, hm, if_true]
  · simp only [exec, execConfigByteGiven, configByteGiven, hm, if_true, readEnds_eq_false h, Bool.false_eq_true, if_false]

theorem average_lt (s0 s1 s2 s3 : Value) : (s0.toNat + s1.toNat + s2.toNat + s3.toNat + 2) / 4 < 4096 := by
  have := s0.isLt
  have := s1.isLt
  have := s2.isLt
  have := s3.isLt
  omega

/-- Settles O12: four counts below 4096 have an average below 4096, so none of it is cut off. -/
theorem channelValueAndFlags : Obligations.ChannelValueAndFlags := by
  refine fun s0 s1 s2 s3 => ⟨rfl, ?_, ?_, ?_⟩
  · simp only [channelValue, averageOf, BitVec.toNat_ofNat]
    exact Nat.mod_eq_of_lt (average_lt s0 s1 s2 s3)
  · simp [qualityOf, samplesTaken, Bool.beq_eq_decide_eq]
  · simp [qualityOf, samplesTaken, Bool.beq_eq_decide_eq]

/-! FAULT -/

/-- In FAULT the bus unit receives nothing (R160). -/
theorem receive_inFault {s : State} (hm : s.station.mode = .fault) (f : Frame) : receive f s = s := by
  simp [receive, hears, receives, hm]

/-- Settles O58: in FAULT every block but the two lines waits for a station state that it does not find, for a timer's holder that is gone,
or for a frame that is gone. -/
theorem faultIsStill : Obligations.FaultIsStill := by
  intro s c hm hr hq hf hp h1 h2
  have hw : s.works = false := by simp [State.works, hm]
  have ha : s.isActive = false := by simp [State.isActive, hm]
  have hl : frameOnLine s = none := by simp [frameOnLine, hq]
  have entry (tag : Tag) (p : Stage → Bool) : entryOf tag p s = none := by simp [entryOf, hp]
  cases c <;> simp only [exec]
  case powerOnReset | lineReset => contradiction
  case trgChange l => simp [execTrgChange, trgChange, hw]
  case rstnHigh => simp [execRstnHigh, rstnHigh, hm]
  case configByteGiven b => simp [execConfigByteGiven, configByteGiven, hm]
  case configByteUngiven => simp [execConfigByteUngiven, configByteUngiven, hm]
  case timeBaseAdvance => simp [execTimeBaseAdvance, timeAdvance, hw]
  case debounceExpiry => simp [execDebounceExpiry, debounceExpiry, hw]
  case cadenceTick => simp [execCadenceTick, cadenceTick, hw]
  case channelCompletion => simp [execChannelCompletion, channelCompletion, hr]
  case freshnessExpiry k =>
    simp only [execFreshnessExpiry, freshnessExpiry]
    split <;> simp [hw]
  case alertRepeatExpiry => simp [execAlertRepeatExpiry, alertRepeat, ha]
  case callTimerExpiry => simp [execCallTimerExpiry, callExpiry, ha]
  case sweepDeadlineExpiry => simp [execSweepDeadlineExpiry, deadlineExpiry, hw]
  case replyTimerExpiry tag => simp [execReplyTimerExpiry, attemptWhen, entry]
  case backOffExpiry tag => simp [execBackOffExpiry, attemptWhen, entry]
  case holdOffExpiry k => simp [execHoldOffExpiry, holdOffExpiry, ha]
  case presenceTimerExpiry => simp [execPresenceTimerExpiry, presenceExpiry, ha, hm]
  case silentTimerExpiry a =>
    simp only [execSilentTimerExpiry, silentExpiry]
    split <;> simp [hw]
  case lostTimerExpiry a =>
    simp only [execLostTimerExpiry, lostExpiry]
    split <;> simp [hw]
  case joinWaitExpiry => simp [execJoinWaitExpiry, joinWaitExpiry, hm]
  case releaseTimerExpiry => simp [execReleaseTimerExpiry, releaseExpiry, hm]
  case conflictClearingExpiry => simp [execConflictClearingExpiry, clearingExpiry, ha]
  case txFrameStart => simp [execTxFrameStart, txStart, ha, hm]
  case sendCompletion => simp [execSendCompletion, sendCompletion, hl]
  case arbitrationLoss => simp [execArbitrationLoss, arbitrationLoss, hl]
  case transmitError => simp [execTransmitError, transmitError, hl]
  case keyFieldConflict => simp [execKeyFieldConflict, keyFieldConflict, hl]
  case flushedFrameEnd =>
    simp only [execFlushedFrameEnd, flushedFrameEnd, ← hf]
  case rxBadFrame bytes => simp [execRxBadFrame, receiveBytes, hears, receives, hm]
  all_goals exact congrArg Host.Outcome.next (receive_inFault hm _)

end Sys2Proof.Machine
end
section
/-! L is replaced by a newer number alone (O59). -/

namespace Sys2Proof.Machine

open Sys2Proof.Safety

/-- L is as it was, or a number that the old L accepts (R44, R46). -/
abbrev LastFollows (s t : State) : Prop :=
  t.sweeps.last = s.sweeps.last ∨ ∃ n, t.sweeps.last = some n ∧ acceptable n s.sweeps.last = true

section
variable {s t u : State}

theorem LastFollows.before (h : LastFollows t u) (e : t.sweeps.last = s.sweeps.last) : LastFollows s u := by
  simpa only [LastFollows, e] using h

theorem LastFollows.after (h : LastFollows s t) (e : u.sweeps.last = t.sweeps.last) : LastFollows s u := by
  simpa only [LastFollows, e] using h

end

/-! Parts that leave L -/

@[simp] theorem closeTally_last (t : Tally) (state : TallyState) (s : State) : (closeTally t state s).sweeps.last = s.sweeps.last := by
  simp [closeTally_sweeps]

@[simp] theorem supersede_last (s : State) : (supersede s).sweeps.last = s.sweeps.last := by
  unfold supersede
  split <;> simp

@[simp] theorem openNew_last (n : Count) (s : State) : (openNew n s).sweeps.last = s.sweeps.last := by
  simp only [openNew]
  split <;> simp

@[simp] theorem acceptSweep_last (n : Count) (s : State) : (acceptSweep n s).sweeps.last = some n := by
  unfold acceptSweep offerOwnSweep
  split <;> simp [noteAccepted]

@[simp] theorem takeReport_last (station : Nat) (k : Count) (s : State) : (takeReport station k s).sweeps.last = s.sweeps.last := by
  simp only [takeReport, applyReport]
  repeat' split
  all_goals simp

@[simp] theorem sweepLost_last (station : Nat) (s : State) : (sweepLost station s).sweeps.last = s.sweeps.last := by
  simp only [sweepLost]
  repeat' split
  all_goals simp

@[simp] theorem callExpiry_last (s : State) : (callExpiry s).sweeps.last = s.sweeps.last := by
  simp only [callExpiry]
  repeat' split
  all_goals simp

@[simp] theorem deadlineExpiry_last (s : State) : (deadlineExpiry s).sweeps.last = s.sweeps.last := by
  unfold deadlineExpiry
  repeat' split
  all_goals simp

@[simp] theorem jobDone_last (j : Job) (s : State) : (jobDone j s).sweeps.last = s.sweeps.last := by
  simp only [jobDone, changeConverter_frame, publish_frame]
  unfold selfReport
  split <;> simp

@[simp] theorem channelCompletion_last (s0 s1 s2 s3 : Value) (s : State) : (channelCompletion s0 s1 s2 s3 s).sweeps.last = s.sweeps.last := by
  unfold channelCompletion
  split
  · rfl
  · dsimp only
    split
    · simp
    · split <;> [split; skip] <;> simp

@[simp] theorem announceLost_last (station : Nat) (s : State) : (announceLost station s).sweeps.last = s.sweeps.last := by
  simp only [announceLost, forgetAsserter_frame]
  exact (settle_field (fun s => s.sweeps.last) (by simp)).trans (by simp)

@[simp] theorem leave_last (b : Bool) (s : State) : (leave b s).sweeps.last = s.sweeps.last := by
  cases b
  · rfl
  · simp [leave, leaveActive_eq]

@[simp] theorem addressConflict_last (s : State) : (addressConflict s).sweeps.last = s.sweeps.last := by
  simp only [addressConflict]
  split
  · split
    · exact eitherFirst_induct (P := fun t => t.sweeps.last = s.sweeps.last) (by simp [enterFault, toMode]) (by simp [enterFault, toMode])
    · simp [enterSilenced, toMode]
  · rfl

@[simp] theorem dispatchRequester_last (f : Frame) (s : State) : (dispatchRequester f s).sweeps.last = s.sweeps.last := by
  unfold dispatchRequester
  split <;> simp

@[simp] theorem dispatchUnconfigured_last (f : Frame) (s : State) : (dispatchUnconfigured f s).sweeps.last = s.sweeps.last := by
  unfold dispatchUnconfigured
  split <;> simp

@[simp] theorem frameReturned_last (q : QueuedFrame) (f : QueuedFrame → QueuedFrame) (s : State) :
    (frameReturned q f s).sweeps.last = s.sweeps.last := by
  unfold frameReturned
  repeat' split
  all_goals simp [removeOnLine, returnFrame]

@[simp] theorem reportErrors_last (s : State) : (reportErrors s).sweeps.last = s.sweeps.last := by
  unfold reportErrors
  split <;> simp [enterSilenced, toMode]

@[simp] theorem enterJoining_last (s : State) : (enterJoining s).sweeps.last = s.sweeps.last := by
  simp [enterJoining_eq, joining]

@[simp] theorem enterActive_last (s : State) : (enterActive s).sweeps.last = s.sweeps.last := by
  rw [enterActive_eq]
  exact eitherFirst_induct (P := fun t => t.sweeps.last = (activated s).sweeps.last) (by simp) (by simp)

@[simp] theorem configByteGiven_last (b : Byte) (s : State) : (configByteGiven b s).sweeps.last = s.sweeps.last := by
  simp only [configByteGiven, validate]
  split
  · split
    · split
      · rfl
      · simp [loadComplete_eq, loaded]
    · rfl
  · rfl

@[simp] theorem acceptLevel_last (l : Level) (s : State) : (acceptLevel l s).sweeps.last = s.sweeps.last := by
  simp only [acceptLevel]
  split <;> simp

@[simp] theorem trgChange_last (l : Level) (s : State) : (trgChange l s).sweeps.last = s.sweeps.last := by
  simp only [trgChange]
  repeat' split
  all_goals simp

/-! Parts that may accept a number -/

theorem lastFollows_of_accept {n : Count} {s : State} (h : acceptable n s.sweeps.last = true) : LastFollows s (acceptSweep n s) :=
  .inr ⟨n, by simp, h⟩

theorem takeSweep_lastFollows (n : Count) (s : State) : LastFollows s (takeSweep n s) := by
  unfold takeSweep
  split
  next h => exact lastFollows_of_accept h
  · exact .inl (by simp)

theorem sweepResult_lastFollows (src : Addr) (cause : Cause) (s : State) : LastFollows s (sweepResult src cause s) := by
  unfold sweepResult
  split
  · refine LastFollows.after ?_ (takeReport_last ..)
    split
    next h => exact lastFollows_of_accept h
    · exact .inl rfl
  all_goals exact .inl rfl

theorem dispatch_lastFollows (f : Frame) (s : State) : LastFollows s (dispatch f s) := by
  unfold dispatch
  split
  case h_2 => exact takeSweep_lastFollows ..
  case h_4 => exact (sweepResult_lastFollows ..).before (by simp)
  all_goals exact .inl (by simp)

theorem takeValid_lastFollows (f : Frame) (s : State) : LastFollows s (takeValid f s) := by
  have r {t : State} (h : LastFollows s t) : LastFollows s (hear f.src f.body t) := h.after (by simp)
  have q {t : State} (h : LastFollows s t) : LastFollows s (dispatchRequester f t) := h.after (by simp)
  have d (t : State) (e : t.sweeps.last = s.sweeps.last) : LastFollows s (dispatch f t) := (dispatch_lastFollows f t).before e
  unfold takeValid
  split
  · exact anyOrder_induct (P := LastFollows s) rfl (q (d _ (by simp))) (d _ (by simp)) (q (r (d _ rfl))) (r (q (d _ rfl))) (d _ (by simp))
      (r (d _ (by simp)))
  · exact r (.inl rfl)

theorem receive_lastFollows (f : Frame) (s : State) : LastFollows s (receive f s) := by
  unfold receive
  split
  · exact .inl rfl
  · split
    · exact .inl (by simp)
    · split
      · exact .inl (by simp)
      · split
        · exact .inl (by simp)
        · exact takeValid_lastFollows f s

theorem receiveBytes_lastFollows (bytes : List Byte) (s : State) : LastFollows s (receiveBytes bytes s) := by
  unfold receiveBytes
  split
  · exact .inl rfl
  · split
    · exact .inl (by simp)
    · exact .inl (by simp)
    · exact receive_lastFollows ..

theorem frameEnded_lastFollows (q : QueuedFrame) (completed : Bool) (s : State) : LastFollows s (frameEnded q completed s) := by
  unfold frameEnded
  split
  case h_2 =>
    split
    next h => exact lastFollows_of_accept (Bool.and_eq_true_iff.mp h).2
    · exact .inl rfl
  all_goals exact .inl (by simp)

theorem sendCompletion_lastFollows (s : State) : LastFollows s (sendCompletion s) := by
  unfold sendCompletion
  split
  · exact (frameEnded_lastFollows ..).before rfl
  · exact .inl rfl

theorem discardFrame_lastFollows (q : QueuedFrame) (s : State) : LastFollows s (discardFrame q s) := by
  have d (t : State) (e : t.sweeps.last = s.sweeps.last) : LastFollows s (frameEnded q false t) := (frameEnded_lastFollows q false t).before e
  have b {t : State} (h : LastFollows s t) : LastFollows s (bump .txFailures t) := h.after (by simp)
  exact eitherFirst_induct (P := LastFollows s) (d _ (by simp)) (b (d _ rfl))

theorem erroredFrame_lastFollows (q : QueuedFrame) (s : State) : LastFollows s (erroredFrame q s) := by
  unfold erroredFrame
  split
  · exact .inl rfl
  · split
    · exact (discardFrame_lastFollows q (removeOnLine s)).before rfl
    · exact .inl (by simp)

theorem transmitError_lastFollows (s : State) : LastFollows s (transmitError s) := by
  unfold transmitError
  split
  next q _ => exact ((erroredFrame_lastFollows q (raiseErrors s)).before rfl).after (reportErrors_last _)
  · exact .inl rfl

theorem lastFollows_of_next {s t u : State} (h : LastFollows s u) (e : (.next u : Host.Outcome State Fault Refusal) = .next t) :
    LastFollows s t := Host.Outcome.next.inj e ▸ h

/-- What every command but a reset does to L. -/
theorem exec_lastFollows {s t : State} {c : Instr} (hp : c ≠ .powerOnReset) (hl : c ≠ .lineReset) (h : exec c s = .next t) :
    LastFollows s t := by
  cases c
  case powerOnReset | lineReset => contradiction
  case rstnHigh =>
    refine lastFollows_of_next (.inl ?_) h
    simp only [rstnHigh]
    split <;> rfl
  case configByteGiven b => exact lastFollows_of_next (.inl (configByteGiven_last b s)) h
  case configByteUngiven =>
    refine lastFollows_of_next (.inl ?_) h
    unfold configByteUngiven
    split <;> rfl
  case timeBaseAdvance =>
    refine lastFollows_of_next (.inl ?_) h
    unfold timeAdvance
    split <;> rfl
  case trgChange l => exact lastFollows_of_next (.inl (trgChange_last l s)) h
  case debounceExpiry =>
    refine lastFollows_of_next (.inl ?_) h
    unfold debounceExpiry
    repeat' split
    all_goals simp
  case cadenceTick =>
    refine lastFollows_of_next (.inl ?_) h
    simp only [cadenceTick]
    split <;> simp
  case channelCompletion s0 s1 s2 s3 => exact lastFollows_of_next (.inl (channelCompletion_last s0 s1 s2 s3 s)) h
  case freshnessExpiry k => exact lastFollows_of_next (.inl (by simp)) h
  case alertRepeatExpiry => exact lastFollows_of_next (.inl (by simp)) h
  case callTimerExpiry => exact lastFollows_of_next (.inl (callExpiry_last s)) h
  case sweepDeadlineExpiry => exact lastFollows_of_next (.inl (deadlineExpiry_last s)) h
  case replyTimerExpiry tag => exact lastFollows_of_next (.inl (by simp)) h
  case backOffExpiry tag => exact lastFollows_of_next (.inl (by simp)) h
  case holdOffExpiry k => exact lastFollows_of_next (.inl (by simp)) h
  case presenceTimerExpiry => exact lastFollows_of_next (.inl (by simp)) h
  case silentTimerExpiry a => exact lastFollows_of_next (.inl (by simp)) h
  case lostTimerExpiry a =>
    refine lastFollows_of_next (.inl ?_) h
    simp only [lostExpiry]
    repeat' split
    all_goals simp
  case joinWaitExpiry =>
    refine lastFollows_of_next (.inl ?_) h
    unfold joinWaitExpiry
    split <;> simp
  case releaseTimerExpiry =>
    refine lastFollows_of_next (.inl ?_) h
    unfold releaseExpiry
    split <;> simp
  case conflictClearingExpiry =>
    refine lastFollows_of_next (.inl ?_) h
    unfold clearingExpiry
    split <;> rfl
  case txFrameStart =>
    refine lastFollows_of_next (.inl ?_) h
    unfold txStart
    split <;> rfl
  case sendCompletion => exact lastFollows_of_next (sendCompletion_lastFollows s) h
  case arbitrationLoss =>
    refine lastFollows_of_next (.inl ?_) h
    unfold arbitrationLoss
    split <;> simp
  case transmitError => exact lastFollows_of_next (transmitError_lastFollows s) h
  case keyFieldConflict =>
    refine lastFollows_of_next (.inl ?_) h
    unfold keyFieldConflict
    split <;> simp
  case flushedFrameEnd => exact lastFollows_of_next (u := flushedFrameEnd s) (.inl rfl) h
  case rxBadFrame bytes => exact lastFollows_of_next (receiveBytes_lastFollows bytes s) h
  all_goals exact lastFollows_of_next (receive_lastFollows _ s) h

/-- Settles O59: that counters have been reached is one of the laws that every command keeps, and L changes by an acceptance alone. -/
theorem countersAndLastSweepNeverFall : Obligations.CountersAndLastSweepNeverFall := by
  intro s t c hp hl h
  refine ⟨(exec_keeps hp hl h).holds (.reached s.counters) (CountersLe.refl _), fun l hs => ?_⟩
  rcases exec_lastFollows hp hl h with e | ⟨n, e, ha⟩
  · exact .inl (e.trans hs)
  · exact .inr ⟨n, e, by simpa [hs, acceptable] using ha⟩

end Sys2Proof.Machine
end
section
/-! The load: how it fails (O5), what it leaves (O6), and what a sound image says (O7). -/

namespace Sys2Proof.Machine

open Sys2Proof.Safety

/-! Loads that fail -/

theorem faulted_enterFault (code : FaultCode) (s : State) : Faulted code s (enterFault code s) :=
  ⟨rfl, rfl, rfl, rfl, rfl, rfl, rfl, rfl, rfl, rfl, rfl, rfl, rfl, rfl, faulted_groups s.alerts, rfl, rfl, rfl, rfl, rfl, rfl, rfl⟩

theorem readEnds_eq_true {b : List Byte} (h : 2 ≤ b.length) (hn : imageByte b 1 ≤ b.length) : readEnds b = true := by
  simp [readEnds, h, hn]

theorem configByteGiven_last_byte {s : State} {b : Byte} (hm : s.station.mode = .loading) (h : 2 ≤ (s.station.reading ++ [b]).length)
    (hn : imageByte (s.station.reading ++ [b]) 1 ≤ (s.station.reading ++ [b]).length) :
    configByteGiven b s = validate (s.station.reading ++ [b])
      { s with station := { s.station with reading := s.station.reading ++ [b] } } := by
  simp only [configByteGiven, hm, if_true, readEnds_eq_true h hn]

/-! The order of the checks (R167) -/

/-- The kind marker and an announced length that the format allows (R184). -/
def MarkedImage (b : List Byte) : Prop := imageByte b 0 = 0xA7 ∧ ∃ w ≤ 16, imageByte b 1 = 31 + 10 * w

/-- The check value that the image carries is that of the bytes before it (R184). -/
def CheckedImage (b : List Byte) : Prop :=
  checkValue (b.take (imageByte b 1 - 2)) = ((b[imageByte b 1 - 2]?).getD 0 ++ (b[imageByte b 1 - 1]?).getD 0 : BitVec 16)

theorem lengthAllowed_iff (n : Nat) : lengthAllowed n = true ↔ ∃ w ≤ 16, n = 31 + 10 * w := by
  simp only [lengthAllowed, Bool.and_eq_true, decide_eq_true_eq, beq_iff_eq]
  constructor
  · rintro ⟨⟨h1, h2⟩, h3⟩
    exact ⟨(n - 31) / 10, by omega, by omega⟩
  · rintro ⟨w, hw, rfl⟩
    omega

/-- The checks of an image, one after another (R167). -/
theorem imageFault_cases (b : List Byte) :
    ¬ MarkedImage b ∧ imageFault b = some .imageAbsent ∨
    MarkedImage b ∧ ¬ CheckedImage b ∧ imageFault b = some .imageCheck ∨
    MarkedImage b ∧ CheckedImage b ∧ imageFault b = ((rangeChecks b).find? (fun c => !c.2)).map (fun c => .imageRange c.1) := by
  have marked : (imageByte b 0 == 0xA7 && lengthAllowed (imageByte b 1)) = true ↔ MarkedImage b := by
    rw [Bool.and_eq_true, beq_iff_eq, lengthAllowed_iff]
    rfl
  have checked : (checkValue (b.take (imageByte b 1 - 2)) != (settingsOf b).signature) = true ↔ ¬ CheckedImage b := by
    simp [CheckedImage, settingsOf, wordOf]
  unfold imageFault
  by_cases hm : MarkedImage b
  · by_cases hc : CheckedImage b
    · refine .inr (.inr ⟨hm, hc, ?_⟩)
      rw [if_neg (by simpa using marked.mpr hm), if_neg (fun e => checked.mp e hc)]
    · refine .inr (.inl ⟨hm, hc, ?_⟩)
      rw [if_neg (by simpa using marked.mpr hm), if_pos (checked.mpr hc)]
  · refine .inl ⟨hm, ?_⟩
    rw [if_pos (by rw [Bool.not_eq_true']; exact Bool.eq_false_iff.mpr fun e => hm (marked.mp e))]

theorem find?_failing_iff {l : List (Nat × Bool)} {o : Nat} :
    (l.find? (fun c => !c.2)).map (fun c => FaultCode.imageRange c.1) = some (.imageRange o) ↔
      ∃ l1 l2, l = l1 ++ (o, false) :: l2 ∧ ∀ c ∈ l1, c.2 = true := by
  simp only [Option.map_eq_some_iff, FaultCode.imageRange.injEq, List.find?_eq_some_iff_append]
  constructor
  · rintro ⟨⟨o', v⟩, ⟨hv, l1, l2, rfl, h⟩, rfl⟩
    exact ⟨l1, l2, by simpa using hv, by simpa using h⟩
  · rintro ⟨l1, l2, rfl, h⟩
    exact ⟨(o, false), ⟨rfl, l1, l2, rfl, by simpa using h⟩, rfl⟩

/-- The offsets of the range checks, in the order in which they are made. -/
theorem rangeChecks_offsets (b : List Byte) :
    (rangeChecks b).map Prod.fst =
      2 :: (List.range 25).map (· + 4) ++
      (List.range (imageByte b 28)).flatMap (fun w => [2, 1, 2, 1, 2, 3, 3, 5, 5, 7, 8, 9, 0].map (fun d => 29 + 10 * w + d)) ++ [28] := by
  have fixed : (fixedChecks b).map Prod.fst = 2 :: (List.range 25).map (· + 4) := by
    simp [fixedChecks, List.range_succ]
  have watch (w : Nat) : (watchChecks b w).map Prod.fst = [2, 1, 2, 1, 2, 3, 3, 5, 5, 7, 8, 9, 0].map (fun d => 29 + 10 * w + d) := by
    simp [watchChecks, watchOffset]
  simp only [rangeChecks, List.map_append, fixed, List.map_flatMap, watch]
  rfl

theorem imageAbsent_iff (b : List Byte) : imageFault b = some .imageAbsent ↔ ¬ MarkedImage b := by
  rcases imageFault_cases b with ⟨hm, e⟩ | ⟨hm, hc, e⟩ | ⟨hm, hc, e⟩ <;> simp [hm, e]

theorem imageCheck_iff (b : List Byte) : imageFault b = some .imageCheck ↔ MarkedImage b ∧ ¬ CheckedImage b := by
  rcases imageFault_cases b with ⟨hm, e⟩ | ⟨hm, hc, e⟩ | ⟨hm, hc, e⟩ <;> simp [*]

theorem imageRange_iff (b : List Byte) (o : Nat) : imageFault b = some (.imageRange o) ↔ MarkedImage b ∧ CheckedImage b ∧
    ∃ l1 l2, rangeChecks b = l1 ++ (o, false) :: l2 ∧ ∀ c ∈ l1, c.2 = true := by
  rw [← find?_failing_iff]
  rcases imageFault_cases b with ⟨hm, e⟩ | ⟨hm, hc, e⟩ | ⟨hm, hc, e⟩
  · simp [hm, e]
  · simp [hc, e]
  · rw [e]
    simp only [hm, hc, true_and]

theorem imageFault_ne_conflict (b : List Byte) : imageFault b ≠ some .addressConflict := by
  rcases imageFault_cases b with ⟨-, e⟩ | ⟨-, -, e⟩ | ⟨-, -, e⟩ <;> simp [e]

/-- Settles O5. -/
theorem failedLoadEntersFault : Obligations.FailedLoadEntersFault := by
  refine ⟨fun s b code hm => ⟨⟨_, rfl, ?_⟩, fun h hn hf => ⟨_, rfl, ?_⟩⟩, fun b =>
    ⟨imageAbsent_iff b, imageCheck_iff b, imageRange_iff b, imageFault_ne_conflict b, rangeChecks_offsets b⟩⟩
  · simp only [configByteUngiven, hm, if_true]
    exact faulted_enterFault ..
  · rw [configByteGiven_last_byte hm h hn]
    simp only [validate, hf]
    exact faulted_enterFault ..

/-! The load that completes -/

/-- Settles O6: the transmit queue is empty, so the PRESENCE enters it. -/
theorem soundImageLoads : Obligations.SoundImageLoads := by
  intro s b hm hq ha h hn hf bytes c hello
  generalize ht : joining (loaded bytes { s with station := { s.station with reading := bytes } }) = t
  have queue : t.bus.queue = [] := by subst ht; exact hq
  have said : formPresence t = hello := by
    subst ht
    simp [formPresence, joining, loaded, State.isActive, State.cfg, activeAlerts, AlertUnit.driveLines, ha, byteOf, hello, c]
  have placed : configByteGiven b s = enqueue allStations (.presence hello) t := by
    rw [configByteGiven_last_byte hm h hn]
    simp only [validate, hf, loadComplete_eq, enterJoining_eq]
    rw [show joining _ = t from ht, placePresence, queue, ← said]
    rfl
  refine ⟨_, congrArg Host.Outcome.next placed, ?_⟩
  subst ht
  refine ⟨rfl, rfl, rfl, rfl, fun k => Map.find_foldl_set _ _ _ k, rfl, rfl, rfl, ?_, rfl, rfl, rfl, rfl, rfl, rfl, rfl⟩
  simp only [enqueue, queue]
  rfl

/-! What a sound image says -/

theorem imageByte_lt (b : List Byte) (o : Nat) : imageByte b o < 256 := ((b[o]?).getD 0).isLt

theorem fixedCheck_of_sound {b : List Byte} (h : imageFault b = none) : ∀ c ∈ fixedChecks b, c.2 = true :=
  fun c hc => check_of_sound h c (by simp [rangeChecks, hc])

theorem watchCheck_of_sound {b : List Byte} (h : imageFault b = none) {w : Nat} (hw : w < imageByte b 28) : ∀ c ∈ watchChecks b w, c.2 = true :=
  fun c hc => check_of_sound h c (by
    simp only [rangeChecks, List.mem_append, List.mem_flatMap, List.mem_range]
    exact .inl (.inr ⟨w, hw, hc⟩))

theorem marked_of_sound {b : List Byte} (h : imageFault b = none) : MarkedImage b := by
  by_contra hm
  simp [(imageAbsent_iff b).mpr hm] at h

theorem own_of_sound {b : List Byte} (h : imageFault b = none) :
    isStation (imageByte b 2) = true ∧ (settingsOf b).own.toNat = imageByte b 2 := by
  have hs : isStation (imageByte b 2) = true := fixedCheck_of_sound h (2, isStation (imageByte b 2)) (by simp [fixedChecks])
  refine ⟨hs, ?_⟩
  have : imageByte b 2 ≤ 30 := by
    simp only [isStation, Bool.and_eq_true, decide_eq_true_eq] at hs
    exact hs.2
  simp only [settingsOf, BitVec.toNat_ofNat]
  omega

theorem keyOfByte_station {n : Nat} (h : n < 256) : (keyOfByte n).station.toNat = n / 8 := by
  simp only [keyOfByte, BitVec.toNat_ofNat]
  omega

theorem keyOfByte_channel (n : Nat) : (keyOfByte n).channel.toNat = n % 8 := by
  simp only [keyOfByte, BitVec.toNat_ofNat]
  omega

/-- What R82 asks of a source (checks 2 and 3). -/
def SourceConsistent (c : Settings) (k : Key) : Prop :=
  isStation k.station.toNat = true ∧ (k.station = c.own → setHas c.measurable k.channel.toNat = true)

theorem sourceConsistent_keyOfByte {b : List Byte} (h : imageFault b = none) (o : Nat)
    (hs : sourceStationOk (imageByte b o) = true) (ho : sourceOwnOk b (imageByte b o) = true) :
    SourceConsistent (settingsOf b) (keyOfByte (imageByte b o)) := by
  have station := keyOfByte_station (imageByte_lt b o)
  refine ⟨by rw [station]; exact hs, fun e => ?_⟩
  have own : imageByte b o / 8 = imageByte b 2 := by rw [← station, e, (own_of_sound h).2]
  rw [keyOfByte_channel]
  simpa [sourceOwnOk, own, settingsOf] using ho

/-- What R82 and R184 ask of a watch. -/
def WatchConsistent (c : Settings) (w : WatchConfig) : Prop :=
  (w.kind = .difference ↔ w.sourceB.isSome) ∧
  (∀ k, k = w.sourceA ∨ some k = w.sourceB → SourceConsistent c k) ∧
  (w.high.isSome ∨ w.low.isSome) ∧
  (∀ x, some x = w.high ∨ some x = w.low → -4095 ≤ x ∧ x ≤ 4095 ∧ (w.kind = .level → 0 ≤ x)) ∧
  (∀ h l, some h = w.high → some l = w.low → l < h ∧ (w.hysteresis : Int) < h - l) ∧
  w.hysteresis ≤ 255 ∧ 1 ≤ w.persistence ∧ w.persistence ≤ 8 ∧ w.level.toNat ≤ 2

theorem threshold_range {difference : Bool} {x : Int} (h : thresholdOk difference x = true) :
    -4095 ≤ x ∧ x ≤ 4095 ∧ (difference = false → 0 ≤ x) := by
  cases difference <;> simp [thresholdOk] at h ⊢ <;> omega

theorem watchConsistent_of_sound {b : List Byte} (h : imageFault b = none) {w : Nat} (hw : w < imageByte b 28) :
    WatchConsistent (settingsOf b) (watchOf b w) := by
  have checks := watchCheck_of_sound h hw
  simp only [watchChecks, List.forall_mem_cons, List.not_mem_nil, false_imp_iff, implies_true, and_true] at checks
  obtain ⟨kind, stationA, stationB, ownA, ownB, given, high, low, order, hysteresis, persistence, -, options⟩ := checks
  rw [beq_iff_eq] at kind
  simp only [Bool.and_eq_true, Bool.or_eq_true, Bool.not_eq_true', Bool.and_eq_false_iff, decide_eq_true_eq, bne_iff_ne]
    at stationB ownB given high low order hysteresis persistence options
  refine ⟨?_, ?_, ?_, ?_, ?_, ?_, persistence.1, persistence.2, ?_⟩
  · simp only [watchOf, kind]
    cases givesB b (watchOffset w) <;> simp
  · simp only [watchOf]
    rintro k (rfl | hk)
    · exact sourceConsistent_keyOfByte h _ stationA ownA
    · split at hk
      next hg =>
        obtain rfl := Option.some.inj hk
        exact sourceConsistent_keyOfByte h _ (stationB.resolve_left (by simp [hg])) (ownB.resolve_left (by simp [hg]))
      · simp at hk
  · simp only [watchOf]
    rcases given with e | e <;> simp [e]
  · have ranged {x : Int} (ok : thresholdOk (isDifference b (watchOffset w)) x = true) :
        -4095 ≤ x ∧ x ≤ 4095 ∧ ((watchOf b w).kind = .level → 0 ≤ x) := by
      obtain ⟨h1, h2, h3⟩ := threshold_range ok
      exact ⟨h1, h2, fun e => h3 (by simpa [watchOf] using e)⟩
    rintro x (hx | hx)
    · obtain ⟨hb, ⟨⟩⟩ := Option.ite_none_right_eq_some.mp hx.symm
      exact ranged (high.resolve_left (by simp [hb]))
    · obtain ⟨hb, ⟨⟩⟩ := Option.ite_none_right_eq_some.mp hx.symm
      exact ranged (low.resolve_left (by simp [hb]))
  · intro x y hx hy
    obtain ⟨hb, ⟨⟩⟩ := Option.ite_none_right_eq_some.mp hx.symm
    obtain ⟨lb, ⟨⟩⟩ := Option.ite_none_right_eq_some.mp hy.symm
    exact ⟨order.resolve_left (by simp [hb, lb]), hysteresis.resolve_left (by simp [hb, lb])⟩
  · exact Nat.le_of_lt_succ (imageByte_lt b _)
  · simp only [watchOf, BitVec.toNat_ofNat]
    omega

theorem sweepPeriodMs_mem (n : Nat) : sweepPeriodMs n ∈ [0, 250, 500, 1000, 2000, 5000, 10000] := by
  unfold sweepPeriodMs
  split <;> simp

theorem alertRepeatMs_mem (n : Nat) : alertRepeatMs n ∈ [500, 1000, 2000, 5000] := by
  unfold alertRepeatMs
  split <;> simp

/-- Settles O7: each of its parts is one of the checks that have passed. -/
theorem soundImageSettingsAreConsistent : Obligations.SoundImageSettingsAreConsistent := by
  intro b h c
  obtain ⟨hown, eown⟩ := own_of_sound h
  obtain ⟨-, count, hc, elen⟩ := marked_of_sound h
  have fixed := fixedCheck_of_sound h
  simp only [fixedChecks, List.mem_append, or_imp, forall_and, List.forall_mem_cons, List.forall_mem_map, List.mem_range, Bool.and_eq_true,
    decide_eq_true_eq, List.contains_eq_mem, beq_iff_eq, Bool.or_eq_true] at fixed
  obtain ⟨⟨⟨-, trigger, -, -, debounce, sweep, -, period, ⟨⟨d1, d2⟩, d3⟩, cadence, -, -, ⟨s1, s2⟩, -, f1, ⟨r1, r2⟩, again, -⟩, quorum⟩,
    ⟨wmax, wcount⟩, -⟩ := fixed
  have watches : c.watches.length = imageByte b 28 := by simp [c, settingsOf]
  have f2 := imageByte_lt b 17
  refine ⟨by rw [eown]; exact hown, trigger, sweep, cadence, debounce, ?_, ?_, ?_, ?_, s1, s2, ?_, ?_, ?_, ?_, ?_, by simp [c, settingsOf], ?_,
    ?_, ?_, ?_, pinnedTable_length h⟩
  · exact sweepPeriodMs_mem _
  · show 50 ≤ imageByte b 11 * 10
    omega
  · show imageByte b 11 * 10 ≤ 2000
    omega
  · exact fun hp => d3.resolve_left hp
  · show 100 ≤ imageByte b 17 * 100
    omega
  · show imageByte b 17 * 100 ≤ 25500
    omega
  · show 20 ≤ imageByte b 18 * 10
    omega
  · show imageByte b 18 * 10 ≤ 500
    omega
  · exact alertRepeatMs_mem _
  · intro g hg
    obtain ⟨i, hi, rfl⟩ := List.mem_map.mp hg
    exact quorum.1 i (List.mem_range.mp hi)
  · omega
  · omega
  · intro w hw
    obtain ⟨i, hi, rfl⟩ := List.mem_map.mp hw
    exact watchConsistent_of_sound h (List.mem_range.mp hi)

end Sys2Proof.Machine
end
section
/-! Time, the trigger input and the cadence timer (O8 to O11), and a channel's completion with channels remaining (O13). -/

namespace Sys2Proof.Machine

open Sys2Proof.Safety

/-! The time base -/

theorem tick_iterate (d n : Nat) : tick^[n] (some d) = some (d - n) := by
  induction n with
  | zero => rfl
  | succ n ih =>
    rw [Function.iterate_succ_apply', ih]
    simp only [tick, Option.map_some, Option.some.injEq]
    omega

theorem stage_tick_eq (st : Stage) : Stage.tick st = match st with
    | .sent n => .sent (n - 1)
    | .backingOff n => .backingOff (n - 1)
    | .due => .due
    | .queued => .queued := by
  cases st <;> rfl

/-- Settles O8. -/
theorem timeAdvanceCountsEveryTimer : Obligations.TimeAdvanceCountsEveryTimer := by
  refine ⟨fun d n => ?_, fun s => ⟨fun hw => ?_, fun hw => ?_⟩⟩
  · rw [tick_iterate, Bool.eq_iff_iff, isDue_iff]
    simp [Nat.sub_eq_zero_iff_le]
  · simp only [exec, execTimeBaseAdvance, timeAdvance, hw, Bool.false_eq_true, if_false]
  · simp only [exec, execTimeBaseAdvance, timeAdvance, hw, if_true, tickAll, stage_tick_eq]
    rfl

/-! The trigger input -/

theorem triggerTaken_eq (c : Converter) : Converter.triggerTaken c = (c.trigger.isSome || triggerRuns c || triggerHeld c) := by
  unfold Converter.triggerTaken triggerRuns triggerHeld
  rcases c.running with _ | j <;> rcases c.hold with _ | r <;> rfl

/-- The TRIGGER job of a count (R7). -/
def triggerJob (s : State) (n : Count) : Job :=
  { channels := s.cfg.triggerSet, samples := s.cfg.triggerSamples, cause := .trigger n, progress := [] }

section
variable {s : State} {l a : Level}

theorem offerTrigger_of_works (hw : s.works = true) (n : Count) : offerTrigger n s =
    if Converter.triggerTaken s.converter then bump .triggerOverruns s
    else changeConverter (fun c => { c with trigger := some (triggerJob s n) }) s := by
  simp only [offerTrigger, hw, if_true]
  rfl

/-- An accepted edge is counted, and its offer is an overrun or takes the TRIGGER slot (R7, R39). -/
theorem acceptLevel_of_edge (hw : s.works = true) (he : isEdge s.cfg.edge l = true) :
    acceptLevel l s =
      let t := { s with trigger := { s.trigger with accepted := some l, debounce := none, count := s.trigger.count + 1 } }
      if Converter.triggerTaken s.converter then bump .triggerOverruns t
      else changeConverter (fun c => { c with trigger := some (triggerJob s (s.trigger.count + 1)) }) t := by
  simp only [acceptLevel, he, if_true]
  exact offerTrigger_of_works
    (s := { s with trigger := { s.trigger with accepted := some l, debounce := none, count := s.trigger.count + 1 } }) hw _

theorem acceptLevel_of_no_edge (he : isEdge s.cfg.edge l = false) :
    acceptLevel l s = { s with trigger := { s.trigger with accepted := some l, debounce := none } } := by
  simp [acceptLevel, he]

theorem trgChange_accepts (hw : s.works = true) (ha : s.trigger.accepted = some a) (hl : s.trigger.line ≠ l) (hd : s.cfg.debounce = 0)
    (hn : l ≠ a) : trgChange l s = acceptLevel l { s with trigger := { s.trigger with line := l } } := by
  simp [trgChange, hw, ha, hl, hd, hn]

theorem debounceExpiry_accepts (hw : s.works = true) (ha : s.trigger.accepted = some a) (hd : s.trigger.debounce = some 0) (hn : a ≠ l) :
    debounceExpiry s = acceptLevel l s := by
  have : Level.opposite a = l := by cases a <;> cases l <;> first | contradiction | rfl
  simp [debounceExpiry, hw, ha, hd, isDue, this]

end

/-- Settles O9. -/
theorem trgChangeFollowsDebounce : Obligations.TrgChangeFollowsDebounce := by
  intro s l a hw ha hl
  refine ⟨fun hd hn he => ?_, fun hd hb hn => ?_, fun hd hb hn => ?_⟩ <;> simp only [exec, execTrgChange]
  · rw [trgChange_accepts hw ha hl hd hn, acceptLevel_of_no_edge (s := { s with trigger := { s.trigger with line := l } }) he]
  · simp [trgChange, hw, ha, hl, hd, hb, hn]
  · have : s.trigger.debounce.isSome = true := Option.isSome_iff_ne_none.mpr hb
    subst hn
    simp [trgChange, hw, ha, hl, hd, this]

/-- Settles O10: both commands accept the level in one way, and the TRIGGER work in hand decides about its offer. -/
theorem acceptedEdgeStartsTriggerJob : Obligations.AcceptedEdgeStartsTriggerJob := by
  intro s l a hw ha hn n counted job starts waits overrun
  have overruns : s.converter.trigger.isSome = true ∨ triggerRuns s.converter = true ∨ triggerHeld s.converter = true →
      Converter.triggerTaken s.converter = true := by
    rw [triggerTaken_eq]
    simp only [Bool.or_eq_true]
    tauto
  have free (h1 : s.converter.trigger = none) (h2 : triggerRuns s.converter = false) (h3 : triggerHeld s.converter = false) :
      Converter.triggerTaken s.converter = false := by simp [triggerTaken_eq, h1, h2, h3]
  have freeEmpty (hc : s.converter = Converter.empty) : Converter.triggerTaken s.converter = false := by rw [hc]; rfl
  have changed (he : isEdge s.cfg.edge l = true) (hd : s.cfg.debounce = 0) (hl : s.trigger.line ≠ l) (taken : Bool)
      (ht : Converter.triggerTaken s.converter = taken) : exec (.trgChange l) s = .next
        (if taken then { s with trigger := counted l, counters := overrun } else { s with trigger := counted l, converter := waits }) := by
    simp only [exec, execTrgChange]
    rw [trgChange_accepts hw ha hl hd (Ne.symm hn), acceptLevel_of_edge (s := { s with trigger := { s.trigger with line := l } }) hw he]
    dsimp only
    rw [ht]
    rfl
  have expired (he : isEdge s.cfg.edge l = true) (hd : s.trigger.debounce = some 0) (taken : Bool)
      (ht : Converter.triggerTaken s.converter = taken) : exec .debounceExpiry s = .next
        (if taken then { s with trigger := counted s.trigger.line, counters := overrun }
          else { s with trigger := counted s.trigger.line, converter := waits }) := by
    simp only [exec, execDebounceExpiry]
    rw [debounceExpiry_accepts hw ha hd hn, acceptLevel_of_edge hw he, ht]
    rfl
  have idle (hc : s.converter = Converter.empty) : waits = starts := by
    simp only [waits, hc]
    rfl
  refine ⟨fun he hd hl => ⟨fun hc => ?_, fun h => changed he hd hl true (overruns h), fun h1 h2 h3 => changed he hd hl false (free h1 h2 h3)⟩,
    fun he hd => ⟨fun hc => ?_, fun h => expired he hd true (overruns h), fun h1 h2 h3 => expired he hd false (free h1 h2 h3)⟩,
    fun he hd => ?_⟩
  · rw [changed he hd hl false (freeEmpty hc), ← idle hc]
    rfl
  · rw [expired he hd false (freeEmpty hc), ← idle hc]
    rfl
  · simp only [exec, execDebounceExpiry]
    rw [debounceExpiry_accepts hw ha hd hn, acceptLevel_of_no_edge he]

/-! The cadence timer -/

/-- Settles O11. -/
theorem cadenceTickOffersOrSkips : Obligations.CadenceTickOffersOrSkips := by
  intro s hw hd n ticked job
  have ticks : exec .cadenceTick s = .next (offerCadence n { s with cadence := ticked }) := by
    simp only [exec, execCadenceTick, cadenceTick, hd, hw, isDue]
    rfl
  have offers (hs : s.cfg.cadenceSet ≠ 0) : exec .cadenceTick s = .next
      (if s.converter.cadence.isSome then bump .cadenceSkips { s with cadence := ticked }
        else { s with cadence := ticked, converter := Converter.proceed { s.converter with cadence := some job } }) := by
    have hw' : ({ s with cadence := ticked } : State).works = true := hw
    have hs' : (({ s with cadence := ticked } : State).cfg.cadenceSet != 0) = true := by simpa [State.cfg] using hs
    rw [ticks]
    simp only [offerCadence, hw', hs', Bool.and_true, if_true]
    rfl
  refine ⟨fun hs => ?_, fun hs hc => ?_, fun hs hc => ?_, fun hs hc => ?_⟩
  · have hs' : (({ s with cadence := ticked } : State).cfg.cadenceSet != 0) = false := by simpa [State.cfg] using hs
    rw [ticks]
    simp only [offerCadence, hs', Bool.and_false, Bool.false_eq_true, if_false]
  · rw [offers hs, hc]
    rfl
  · rw [offers hs, hc]
    rfl
  · rw [offers hs, if_pos hc]
    rfl

end Sys2Proof.Machine
end
section
/-! The converter: the next channel and its completion (O13). -/

namespace Sys2Proof.Machine

open Sys2Proof.Safety

/-! The next channel -/

theorem setHas_setOf_aux {w : Nat} (l : List Nat) (s : BitVec w) {i : Nat} (hi : i < w) :
    setHas (l.foldl setInsert s) i = true ↔ setHas s i = true ∨ i ∈ l := by
  induction l generalizing s with
  | nil => simp
  | cons k l ih =>
    rw [List.foldl_cons, ih, List.mem_cons]
    have : setHas (setInsert s k) i = true ↔ setHas s i = true ∨ i = k := by
      simp [setHas, setInsert, hi]
    rw [this]
    tauto

theorem setHas_setOf {w : Nat} {l : List Nat} {i : Nat} (hi : i < w) : setHas (setOf w l) i = true ↔ i ∈ l := by
  rw [setOf, setHas_setOf_aux l 0 hi]
  simp [setHas]

theorem setHas_completed (j : Job) {c : Nat} (hc : c < 8) :
    setHas (Job.completed j) c = true ↔ ∃ it ∈ j.progress, it.channel.toNat = c := by
  rw [Job.completed, setHas_setOf hc, List.mem_map]

/-- The next channel is the lowest of the job's set that its progress list does not have (R4). -/
theorem nextChannel_iff (j : Job) (c : Nat) : Job.nextChannel j = some c ↔
    setHas j.channels c = true ∧ (∀ it ∈ j.progress, it.channel.toNat ≠ c) ∧
      ∀ d < c, setHas j.channels d = true → ∃ it ∈ j.progress, it.channel.toNat = d := by
  have left {c : Nat} (hc : c < 8) : setHas (j.channels &&& ~~~ Job.completed j) c = true ↔
      setHas j.channels c = true ∧ ¬ ∃ it ∈ j.progress, it.channel.toNat = c := by
    rw [← setHas_completed j hc]
    simp [setHas, hc]
  unfold Job.nextChannel setList
  rw [List.head?_filter, List.find?_range_eq_some]
  simp only [List.mem_range]
  constructor
  · rintro ⟨hc, hm, hd⟩
    obtain ⟨h1, h2⟩ := (left hm).mp hc
    refine ⟨h1, by simpa using h2, fun d hdc hs => ?_⟩
    by_contra hn
    have := (left (hdc.trans hm)).mpr ⟨hs, hn⟩
    simpa [this] using hd d hdc
  · rintro ⟨h1, h2, h3⟩
    have hm := setHas_lt h1
    refine ⟨(left hm).mpr ⟨h1, by simpa using h2⟩, hm, fun d hdc => ?_⟩
    rw [Bool.not_eq_true', ← Bool.not_eq_true, left (hdc.trans hm)]
    exact fun ⟨hs, hn⟩ => hn (h3 d hdc hs)

/-- The item that a channel's completion adds to the job's progress list (R2, R17). -/
def completedItem (j : Job) (c : Nat) (s0 s1 s2 s3 : Value) : Item :=
  { channel := BitVec.ofNat 3 c, value := channelValue j.samples s0 s1 s2 s3, flags := qualityOf (samplesTaken j.samples s0 s1 s2 s3) }

theorem complete_of_next {j : Job} {c : Nat} (h : Job.nextChannel j = some c) (s0 s1 s2 s3 : Value) :
    Job.complete j s0 s1 s2 s3 = { j with progress := j.progress ++ [completedItem j c s0 s1 s2 s3] } := by
  simp only [Job.complete, h]
  rfl

/-- Settles O13. -/
theorem channelCompletionContinuesOrPreempts : Obligations.ChannelCompletionContinuesOrPreempts := by
  refine ⟨nextChannel_iff, ?_⟩
  intro s s0 s1 s2 s3 j c d hr hc item j' hd
  have hj : Job.complete j s0 s1 s2 s3 = j' := complete_of_next hc s0 s1 s2 s3
  refine ⟨fun h => ?_, fun t ht hn => ?_⟩ <;> simp only [exec, execChannelCompletion, channelCompletion, hr, hj, hd]
  · rcases ht : s.converter.trigger with _ | t
    · rfl
    · simp only [h.resolve_left (by simp [ht]), if_true]
  · simp only [ht, hn, if_false, preempt]

end Sys2Proof.Machine
end
section
/-! A batch of updates and a report at a station without watches, and the end of a job (O14). -/

namespace Sys2Proof.Machine

open Sys2Proof.Safety

/-! A batch at a station without watches (R68, R69) -/

theorem mem_inChannelOrder {items : List Item} {it : Item} : it ∈ inChannelOrder items ↔ it ∈ items := by
  simp only [inChannelOrder, List.mem_flatMap, List.mem_range, List.mem_filter, beq_iff_eq]
  constructor
  · rintro ⟨-, -, h, -⟩
    exact h
  · exact fun h => ⟨it.channel.toNat, it.channel.isLt, h, rfl⟩

/-- Items of distinct channels, put in channel order, are the same items. -/
theorem inChannelOrder_perm {items : List Item} (h : (items.map Item.channel).Nodup) : (inChannelOrder items).Perm items := by
  have hn := List.Nodup.of_map _ h
  refine (List.perm_ext_iff_of_nodup ?_ hn).mpr fun it => mem_inChannelOrder
  rw [inChannelOrder, List.nodup_flatMap]
  refine ⟨fun c _ => hn.filter _, List.nodup_range.imp fun {c d} hcd => ?_⟩
  refine List.disjoint_left.mpr fun it hc hd => hcd ?_
  simp only [List.mem_filter, beq_iff_eq] at hc hd
  exact hc.2.symm.trans hd.2

theorem keyIx_inj {station : Addr} {c d : Channel} : keyIx station c.toNat = keyIx station d.toNat ↔ c = d := by
  simp only [keyIx, Nat.add_left_cancel_iff]
  exact ⟨BitVec.eq_of_toNat_eq, congrArg _⟩

/-- Is the item for the key? -/
def isFor (station : Addr) (k : Nat) (it : Item) : Bool := keyIx station it.channel.toNat == k

theorem isFor_self (station : Addr) (it : Item) : isFor station (keyIx station it.channel.toNat) it = true := by simp [isFor]

/-- Of items of distinct channels, at most one is for a key. -/
theorem eq_of_isFor {station : Addr} {k : Nat} {l : List Item} (h : (l.map Item.channel).Nodup) {a b : Item} (ha : a ∈ l) (hb : b ∈ l)
    (ea : isFor station k a = true) (eb : isFor station k b = true) : a = b := by
  simp only [isFor, beq_iff_eq] at ea eb
  exact List.inj_on_of_nodup_map h ha hb (keyIx_inj.mp (ea.trans eb.symm))

/-- Which of the items is for a key does not depend on their order. -/
theorem find?_isFor_of_perm {l m : List Item} (p : l.Perm m) (h : (m.map Item.channel).Nodup) (station : Addr) (k : Nat) :
    l.find? (isFor station k) = m.find? (isFor station k) := by
  rcases hm : m.find? (isFor station k) with _ | it
  · rw [List.find?_eq_none] at hm ⊢
    exact fun x hx => hm x (p.subset hx)
  · have some' : (l.find? (isFor station k)).isSome = true :=
      List.find?_isSome.mpr ⟨it, p.symm.subset (List.mem_of_find?_eq_some hm), List.find?_some hm⟩
    obtain ⟨x, hx⟩ := Option.isSome_iff_exists.mp some'
    rw [hx, eq_of_isFor h (p.subset (List.mem_of_find?_eq_some hx)) (List.mem_of_find?_eq_some hm) (List.find?_some hx) (List.find?_some hm)]

theorem updated_eq_renewedEntry (s : State) (it : Item) (cause : Cause) (e : Entry) :
    Entry.updated s.cfg.freshness s.time it cause e = renewedEntry s it cause e := by cases cause <;> rfl

/-- An update of an entry that the table holds (R68 steps 2 to 5). -/
theorem applyUpdate_of_held {s : State} {station : Addr} {it : Item} {e : Entry} (h : s.table.find (keyIx station it.channel.toNat) = some e)
    (batch : List Nat) (cause : Cause) :
    applyUpdate batch station cause s it =
      { s with table := s.table.set (keyIx station it.channel.toNat) (renewedEntry s it cause e) } := by
  simp [applyUpdate, makeRoom, h, updated_eq_renewedEntry]

/-- The table t after updates f of entries that it holds, in the order of the list. -/
def renewTable (f : Item → Entry → Entry) (station : Addr) (t : Map Entry) : List Item → Map Entry
  | [] => t
  | it :: l =>
    let k := keyIx station it.channel.toNat
    renewTable f station (match t.find k with
      | some e => t.set k (f it e)
      | none => t) l

theorem find_renewTable {f : Item → Entry → Entry} {station : Addr} (t : Map Entry) {l : List Item} (h : (l.map Item.channel).Nodup) (k : Nat) :
    (renewTable f station t l).find k =
      match l.find? (isFor station k) with
      | some it => (t.find k).map (f it)
      | none => t.find k := by
  induction l generalizing t with
  | nil => rfl
  | cons it l ih =>
    obtain ⟨hit, hl⟩ := List.nodup_cons.mp h
    have step : (match t.find (keyIx station it.channel.toNat) with
        | some e => t.set (keyIx station it.channel.toNat) (f it e)
        | none => t).find k = if isFor station k it then (t.find k).map (f it) else t.find k := by
      by_cases hk : keyIx station it.channel.toNat = k
      · subst hk
        rw [if_pos (isFor_self station it)]
        split
        · simp [*]
        · simp [*]
      · rw [if_neg (by simpa [isFor] using hk)]
        split
        · exact Map.find_set_ne _ _ (Ne.symm hk)
        · rfl
    rw [renewTable, ih _ hl, step, List.find?_cons]
    by_cases hf : isFor station k it = true
    · have none' : l.find? (isFor station k) = none := List.find?_eq_none.mpr fun x hx hxf =>
        hit (by
          have := eq_of_isFor h (List.mem_cons_of_mem it hx) List.mem_cons_self hxf hf
          exact this ▸ List.mem_map_of_mem hx)
      simp only [hf, none', if_true]
    · simp only [hf, Bool.false_eq_true, if_false]

theorem foldl_applyUpdate_of_held {station : Addr} {cause : Cause} (batch : List Nat) (l : List Item) (s : State) (t : Map Entry)
    (h : ∀ it ∈ l, (t.find (keyIx station it.channel.toNat)).isSome = true) :
    l.foldl (applyUpdate batch station cause) { s with table := t } =
      { s with table := renewTable (fun it => renewedEntry s it cause) station t l } := by
  induction l generalizing t with
  | nil => rfl
  | cons it l ih =>
    obtain ⟨hit, hl⟩ := List.forall_mem_cons.mp h
    obtain ⟨e, he⟩ := Option.isSome_iff_exists.mp hit
    rw [List.foldl_cons, applyUpdate_of_held (s := { s with table := t }) he, renewTable]
    simp only [he]
    refine ih _ fun x hx => ?_
    rw [Map.find_set]
    split
    · rfl
    · exact hl x hx

theorem foldl_reachableNotice_of_none {s : State} (h : s.cfg.watches = []) (l : List Nat) :
    l.foldl (fun s k => reachableNotice k s) s = s := by
  induction l with
  | nil => rfl
  | cons k l ih => rw [List.foldl_cons, reachableNotice_of_none h, ih]

/-- At a station without watches a batch is its updates (R69). -/
theorem applyBatch_of_no_watches {s : State} (h : s.cfg.watches = []) (station : Addr) (cause : Cause) (items : List Item) :
    applyBatch station cause items s = (inChannelOrder items).foldl (applyUpdate (batchKeys station items) station cause) s := by
  have hw : ((inChannelOrder items).foldl (applyUpdate (batchKeys station items) station cause) s).cfg.watches = [] := by
    rw [cfg_of_station (applyUpdate_foldl_frame ..).1, h]
  simp only [applyBatch, foldl_reachableNotice_of_none hw, updateNotice_of_none hw]

/-- The table after a batch for entries that it holds (R68, R69). -/
def batchTable (s : State) (station : Addr) (cause : Cause) (items : List Item) : Map Entry :=
  renewTable (fun it => renewedEntry s it cause) station s.table (inChannelOrder items)

theorem renewedBy_batchTable {s : State} {station : Addr} {items : List Item} (h : KeysHeld s station items) (cause : Cause) :
    RenewedBy s station cause items (batchTable s station cause items) := by
  have p := inChannelOrder_perm h.1
  intro k
  rw [batchTable, find_renewTable _ (((p.map Item.channel).nodup_iff).mpr h.1), find?_isFor_of_perm p h.1]
  rfl

theorem applyBatch_of_held {s : State} {station : Addr} {items : List Item} (hw : s.cfg.watches = []) (h : KeysHeld s station items)
    (cause : Cause) : applyBatch station cause items s = { s with table := batchTable s station cause items } := by
  rw [applyBatch_of_no_watches hw]
  exact foldl_applyUpdate_of_held _ _ s s.table fun it hit => h.2 it (mem_inChannelOrder.mp hit)

/-! Tallies at a station without watches (R56, R57, R61) -/

theorem closeTally_of_no_watches {s : State} (h : s.cfg.watches = []) (t : Tally) (state : TallyState) :
    closeTally t state s = { s with sweeps := { s.sweeps with current := some { t with state := state }, deadline := none } } :=
  closeNotice_of_none (s := { s with sweeps := { s.sweeps with current := some { t with state := state }, deadline := none } }) h _

section
variable {s : State} {station : Nat} {k : Count} {t : Tally}

/-- A report that the OPEN tally expects (R57). -/
theorem takeReport_of_expected (hw : s.cfg.watches = []) (hc : s.sweeps.current = some t) (ho : t.state = .opened) (hk : t.number = k)
    (hm : setHas t.expected station = true) :
    takeReport station k s = { s with
      sweeps := if setInsert t.reported station = t.expected
        then { s.sweeps with current := some { t with reported := setInsert t.reported station, state := .complete }, deadline := none }
        else { s.sweeps with current := some { t with reported := setInsert t.reported station } } } := by
  simp only [takeReport, openTally_eq_some.mpr ⟨hc, ho⟩, hk, if_true, applyReport, hm]
  split
  · exact closeTally_of_no_watches hw _ _
  · rfl

/-- A report that the OPEN tally does not expect (R57). -/
theorem takeReport_of_extra (hc : s.sweeps.current = some t) (ho : t.state = .opened) (hk : t.number = k) (hm : setHas t.expected station = false) :
    takeReport station k s = { s with
      sweeps := { s.sweeps with current := some { t with extra := satInc t.extra } }
      counters := { s.counters with extraReports := satInc s.counters.extraReports } } := by
  simp only [takeReport, openTally_eq_some.mpr ⟨hc, ho⟩, hk, if_true, applyReport, hm, Bool.false_eq_true, if_false]
  rfl

/-- A report for no OPEN tally (R56). -/
theorem takeReport_of_late (h : ∀ t, s.sweeps.current = some t → t.state ≠ .opened ∨ t.number ≠ k) (station : Nat) :
    takeReport station k s = { s with counters := { s.counters with lateResults := satInc s.counters.lateResults } } := by
  unfold takeReport
  split
  next t ho =>
    obtain ⟨hc, hs⟩ := openTally_eq_some.mp ho
    rw [if_neg ((h t hc).resolve_left (by simp [hs]))]
    rfl
  · rfl

end

/-! The end of a job -/

theorem proceed_eq (c : Converter) : Converter.proceed c =
    if c.running.isSome ∨ c.hold.isSome then c
    else match c.suspended, c.trigger, c.sweep, c.peers, c.cadence with
      | some j, _, _, _, _ => { c with suspended := none, running := some j }
      | none, some j, _, _, _ => { c with trigger := none, running := some j }
      | none, none, some j, _, _ => { c with sweep := none, running := some j }
      | none, none, none, j :: js, _ => { c with peers := js, running := some j }
      | none, none, none, [], some j => { c with cadence := none, running := some j }
      | none, none, none, [], none => c := by
  simp only [Converter.proceed, Bool.or_eq_true]
  by_cases h : c.running.isSome = true ∨ c.hold.isSome = true
  · simp only [h, if_true]
  · simp only [h, if_false, Converter.startNext]
    rcases c.suspended with _ | j
    · rcases c.trigger with _ | j
      · rcases c.sweep with _ | j
        · rcases c.peers with _ | ⟨j, js⟩
          · rcases c.cadence with _ | j <;> rfl
          · rfl
        · rfl
      · rfl
    · rfl

/-- What becomes of a finished job's RESULT (R23, R24), and the converter goes on (R14, R15). -/
theorem finish_eq (r : Finished) (s : State) :
    changeConverter id (publish r s) =
      if s.station.mode ≠ .active then { s with converter := Converter.proceed s.converter }
      else if held .converter s.bus.queue < 2 then
        withFrame { s with converter := Converter.proceed s.converter } 31 (.result r.cause r.items)
      else { s with converter := { s.converter with hold := some r } } := by
  unfold publish
  by_cases ha : s.station.mode = .active
  · have hs : s.isActive = true := (isActive_iff s).mpr ha
    by_cases hq : held .converter s.bus.queue < 2
    · have hq' : quotaFree .converter s = true := by simpa [quotaFree, Producer.quota] using hq
      simp only [hs, hq', hq, ha, if_true, not_true_eq_false, if_false, ne_eq]
      rfl
    · have hq' : quotaFree .converter s = false := by simpa [quotaFree, Producer.quota] using hq
      simp only [hs, hq', hq, ha, if_true, not_true_eq_false, Bool.false_eq_true, if_false, ne_eq]
      simp [changeConverter, Converter.proceed]
  · have hs : s.isActive = false := by simpa [State.isActive] using ha
    simp only [hs, ha, Bool.false_eq_true, if_false, not_false_eq_true, if_true, ne_eq]
    rfl

/-- Settles O14: what the report changes is apart from what the RESULT and the converter change. -/
theorem lastChannelPublishesResult : Obligations.LastChannelPublishesResult := by
  refine ⟨proceed_eq, ?_⟩
  intro s s0 s1 s2 s3 j c hw hr hc item items hn hk
  refine ⟨batchTable s s.own j.cause items, renewedBy_batchTable hk _, ?_⟩
  intro ended published
  let done : State := { s with table := batchTable s s.own j.cause items, converter := { s.converter with running := none } }
  have hj : Job.complete j s0 s1 s2 s3 = { j with progress := items } := complete_of_next hc s0 s1 s2 s3
  have ends (t : State) (ht : selfReport j.cause done = t) : exec (.channelCompletion s0 s1 s2 s3) s = .next (
      if t.station.mode ≠ .active then { t with converter := Converter.proceed t.converter }
      else if held .converter t.bus.queue < 2 then withFrame { t with converter := Converter.proceed t.converter } 31 (.result j.cause items)
      else { t with converter := { t.converter with hold := some { cause := j.cause, items := items } } }) := by
    have batch : applyBatch s.own j.cause items { s with converter := { s.converter with running := none } } = done :=
      applyBatch_of_held (s := { s with converter := { s.converter with running := none } }) hw hk _
    simp only [exec, execChannelCompletion, channelCompletion, hr, hj, hn, jobDone]
    rw [batch, ht, finish_eq]
  refine ⟨fun hs => ?_, fun n hn => ?_⟩
  · have same : selfReport j.cause done = done := by
      unfold selfReport
      split
      next e => simp [Job.cls, Cause.cls, e] at hs
      all_goals rfl
    rw [ends _ same]
  · have reported : selfReport j.cause done = takeReport s.own.toNat n done := by
      rw [hn]
      rfl
    refine ⟨fun t ht ho hk hm => ?_, fun t ht ho hk hm => ?_, fun h => ?_⟩
    · rw [ends _ (reported.trans (takeReport_of_expected (s := done) hw ht ho hk hm))]
      simp only [published]
      split <;> [rfl; split <;> rfl]
    · rw [ends _ (reported.trans (takeReport_of_extra (s := done) ht ho hk hm))]
      simp only [published]
      split <;> [rfl; split <;> rfl]
    · rw [ends _ (reported.trans (takeReport_of_late (s := done) h _))]
      simp only [published]
      split <;> [rfl; split <;> rfl]

end Sys2Proof.Machine
end
section
/-! A frame from a peer reaches its block whole (R139, R158), and the requests that the station refuses or ignores (O15, O16). -/

namespace Sys2Proof.Machine

open Sys2Proof.Safety

/-! The roster's part and the block's part, in either order -/

theorem judgingPeriod_eq (info : Option Presence) : judgingPeriod info = silencePeriod info := by cases info <;> rfl

theorem heardPeer_eq (now : Time) (info : Option Presence) : heardPeer now info =
    { state := .present, heard := now, info := info, quiet := some (3 * silencePeriod info), gone := some (6 * silencePeriod info) } := by
  rw [heardPeer, judgingPeriod_eq]

/-- A frame other than a PRESENCE, from a peer that is not LOST, at the roster (R139). -/
theorem hear_of_plain {s t : State} {src : Addr} {body : Body} (hl : holdsLost s src.toNat = false) (hp : ∀ p, body ≠ .presence p)
    (hr : t.roster = s.roster) (ht : t.time = s.time) :
    hear src body t = { t with roster := (heardFrom s src (knownInfo s src)).roster } := by
  have hj : carriesJoining body = false := by
    unfold carriesJoining
    split
    next p => exact absurd rfl (hp p)
    · rfl
  have hi : infoAfter (t.roster.peers.find src.toNat) body = knownInfo s src := by
    unfold infoAfter
    split
    next p => exact absurd rfl (hp p)
    · rw [hr, knownInfo]
  have hl' : holdsLost t src.toNat = false := by rw [← hl, holdsLost, holdsLost, hr]
  rw [hear_of_fromPeer hl' body hj, hi, heardPeer_eq, hr, ht]
  rfl

/-- A frame other than a PRESENCE and a RESULT, from a peer that is not LOST, to a block that does not look at the roster: the roster and the
block take it in either order (R158, R159). -/
theorem receive_plain {s t : State} {f : Frame} (h : FromPeer s f.src f.body) (hw : Frame.wellFormed f = true)
    (hd : f.dst = allStations ∨ f.dst = s.own) (hp : ∀ p, f.body ≠ .presence p) (hr : ∀ c i, f.body ≠ .result c i)
    (block : ∀ r n, dispatch f { s with roster := r, draws := n } = { t with roster := r, draws := n }) (time : t.time = s.time) :
    receive f s = { t with roster := (heardFrom s f.src (knownInfo s f.src)).roster, draws := s.draws + 1 } := by
  rw [receive_of_reaches h.1 hw hd, dispatchRequester_eq_id hr]
  refine anyOrder_id_induct (P := fun u => u = _) rfl ?_ ?_
  · rw [hear_of_plain (s := s) (t := { s with draws := s.draws + 1 }) h.2 hp rfl rfl]
    exact block _ _
  · have last : dispatch f { s with draws := s.draws + 1 } = { t with roster := s.roster, draws := s.draws + 1 } := block s.roster _
    rw [last, hear_of_plain (s := s) (t := { t with roster := s.roster, draws := s.draws + 1 }) h.2 hp rfl time]

/-! Refusals (R157) -/

theorem pumpRefusals_eq (s : State) : pumpRefusals s =
    if held .refusalList s.bus.queue = 0 then
      match s.bus.refusals with
      | r :: rs => withFrame { s with bus := { s.bus with refusals := rs } } r.dst (.refuse r.kind r.reason r.tag)
      | [] => s
    else s := by
  unfold pumpRefusals
  by_cases h : held .refusalList s.bus.queue = 0
  · simp only [quotaFree, h, Producer.quota, Nat.zero_lt_one, decide_true, if_true]
    rfl
  · have : ¬ held .refusalList s.bus.queue < 1 := by omega
    simp only [quotaFree, h, Producer.quota, this, decide_false, Bool.false_eq_true, if_false]

theorem refuse_eq_handedOver (dst : Addr) (kind : RefusedKind) (tag : Tag) (reason : Reason) (s : State) :
    refuse dst kind tag reason s = handedOver s dst kind (Reason.code reason) tag := by
  unfold refuse handedOver
  by_cases hc : 4 ≤ s.bus.refusals.length
  · simp only [refusalCapacity, hc, if_true]
    rfl
  · simp only [refusalCapacity, hc, if_false, pumpRefusals_eq]
    split
    · rcases hr : s.bus.refusals with _ | ⟨r, rs⟩
      · have same : ({ s with bus := { s.bus with refusals := [] } } : State) = s := by rw [← hr]
        exact congrArg (withFrame · dst (.refuse kind (Reason.code reason) tag)) same
      · rfl
    · rfl

/-- The refusal list and the roster are apart. -/
theorem handedOver_roster (s : State) (r : Roster) (n : Nat) (dst : Addr) (kind : RefusedKind) (reason : BitVec 3) (tag : Tag) :
    handedOver { s with roster := r, draws := n } dst kind reason tag = { handedOver s dst kind reason tag with roster := r, draws := n } := by
  simp only [handedOver]
  split
  · rfl
  · split
    · split <;> rfl
    · rfl

theorem handedOver_time (s : State) (dst : Addr) (kind : RefusedKind) (reason : BitVec 3) (tag : Tag) :
    (handedOver s dst kind reason tag).time = s.time := by
  simp only [handedOver]
  split
  · rfl
  · split
    · split <;> rfl
    · rfl

/-! MEASURE (R9) -/

theorem wellFormed_measure {src dst : Addr} {tag : Tag} {samples : Byte} {channels : List Byte} (hs : isStation src.toNat = true)
    (hd : isStation dst.toNat = true) (hl : channels.length ≤ 8) : Frame.wellFormed { src := src, dst := dst, body := .measure tag samples channels } = true := by
  simp [Frame.wellFormed, Body.lengthOk, Body.broadcast, Body.fieldsOk, hs, hd, hl]

/-- Why a MEASURE is refused, as a reason's code (R9, R183). -/
def measureVerdict (s : State) (src : Addr) (tag : Tag) (samples : Byte) (channels : List Byte) : Option (BitVec 3) :=
  if channels = [] ∨ ¬ channels.Nodup ∨ (samples ≠ 1 ∧ samples ≠ 4) then some 3
  else if ∃ c ∈ channels, 7 < c.toNat ∨ setHas s.cfg.measurable c.toNat = false then some 2
  else if ∃ j ∈ s.converter.peers ++ s.converter.running.toList ++ s.converter.suspended.toList, j.cause = .measure (src.setWidth 8) tag
    then some 1
  else if 6 ≤ s.converter.peers.length then some 0
  else none

theorem measureRefusal_code (s : State) (src : Addr) (tag : Tag) (samples : Byte) (channels : List Byte) :
    (measureRefusal s src tag samples channels).map Reason.code = measureVerdict s src tag samples channels := by
  have h1 : measureBadRequest samples channels = true ↔ channels = [] ∨ ¬ channels.Nodup ∨ (samples ≠ 1 ∧ samples ≠ 4) := by
    simp [measureBadRequest, or_assoc]
  have h2 : measureBadChannel s.cfg.measurable channels = true ↔ ∃ c ∈ channels, 7 < c.toNat ∨ setHas s.cfg.measurable c.toNat = false := by
    simp [measureBadChannel]
  have h3 : Converter.holdsPeer s.converter src tag = true ↔
      ∃ j ∈ s.converter.peers ++ s.converter.running.toList ++ s.converter.suspended.toList, j.cause = .measure (src.setWidth 8) tag := by
    simp only [Converter.holdsPeer, List.any_eq_true, beq_iff_eq, peerCause]
  by_cases h4 : 6 ≤ s.converter.peers.length <;> simp only [measureRefusal, measureVerdict, h1, h2, h3, peerCapacity, h4, if_true, if_false] <;>
    split_ifs <;> rfl

theorem takeMeasure_eq {s : State} (ha : s.station.mode = .active) (src : Addr) (tag : Tag) (samples : Byte) (channels : List Byte) :
    takeMeasure src tag samples channels s = match measureVerdict s src tag samples channels with
      | some reason => handedOver { s with counters := { s.counters with measureRefused := satInc s.counters.measureRefused } } src .measure
          reason tag
      | none => { s with converter := Converter.proceed { s.converter with peers := s.converter.peers ++ [peerJob src tag samples channels] } } := by
  rw [← measureRefusal_code]
  simp only [takeMeasure, (isActive_iff s).mpr ha, if_true]
  rcases measureRefusal s src tag samples channels with _ | reason
  · rfl
  · exact refuse_eq_handedOver ..

/-- Settles O15: what the converter judges is apart from what the roster changes. -/
theorem measureIsJudgedInOrder : Obligations.MeasureIsJudgedInOrder := by
  intro s src tag samples channels h ha ho hl cause verdict job heard
  have hw := wellFormed_measure (tag := tag) (samples := samples) h.1.2.1 ho hl
  simp only [exec, execRxMeasure]
  have taken (r : Roster) (n : Nat) : takeMeasure src tag samples channels { s with roster := r, draws := n } = _ :=
    takeMeasure_eq (s := { s with roster := r, draws := n }) ha ..
  rcases hv : verdict with _ | reason
  · refine congrArg Host.Outcome.next (receive_plain h hw (.inr rfl) (by simp) (by simp)
      (t := { s with converter := Converter.proceed { s.converter with peers := s.converter.peers ++ [job] } }) (fun r n => ?_) rfl)
    refine (taken r n).trans ?_
    rw [show measureVerdict { s with roster := r, draws := n } src tag samples channels = none from hv]
    rfl
  · refine congrArg Host.Outcome.next ((receive_plain h hw (.inr rfl) (by simp) (by simp)
      (t := handedOver { s with counters := { s.counters with measureRefused := satInc s.counters.measureRefused } } src .measure reason tag)
      (fun r n => ?_) (handedOver_time ..)).trans (handedOver_roster ..).symm)
    refine (taken r n).trans ?_
    rw [show measureVerdict { s with roster := r, draws := n } src tag samples channels = some reason from hv]
    exact handedOver_roster { s with counters := { s.counters with measureRefused := satInc s.counters.measureRefused } } r n ..

/-! Requests outside ACTIVE (R11, R176) -/

theorem queryCommand_eq (kind : BitVec 3) (src dst : Addr) (tag : Tag) (arg : QueryArg) (s : State) :
    exec (queryCommand kind src dst tag arg) s = .next (receive { src := src, dst := dst, body := .query kind tag arg } s) := by
  have : ∀ kind : BitVec 3, kind = 0 ∨ kind = 1 ∨ kind = 2 ∨ kind = 3 ∨ kind = 4 ∨ kind = 5 ∨ kind = 6 ∨ kind = 7 := by decide
  rcases this kind with rfl | rfl | rfl | rfl | rfl | rfl | rfl | rfl <;> rfl

theorem wellFormed_query {src dst : Addr} {kind : BitVec 3} {tag : Tag} {arg : QueryArg} (hs : isStation src.toNat = true)
    (hd : isStation dst.toNat = true) : Frame.wellFormed { src := src, dst := dst, body := .query kind tag arg } = true := by
  simp [Frame.wellFormed, Body.lengthOk, Body.broadcast, Body.fieldsOk, hs, hd]

section
variable {s : State} {src dst : Addr} {tag : Tag} {samples : Byte} {channels : List Byte} {kind : BitVec 3} {arg : QueryArg}

theorem takeMeasure_of_not_active (h : s.station.mode ≠ .active) : takeMeasure src tag samples channels s = bump .requestsIgnored s := by
  have : s.isActive = false := by simpa [State.isActive] using h
  simp [takeMeasure, this]

theorem takeQuery_of_not_active (h : s.station.mode ≠ .active) : takeQuery src kind tag arg s = bump .queriesDropped s := by
  have : s.isActive = false := by simpa [State.isActive] using h
  simp [takeQuery, this]

/-- In LOADING, and in UNLOADED with RSTN high, a well-formed frame is dispatched whatever its destination (R160). -/
theorem receive_unconfigured {f : Frame} (hm : s.station.mode = .loading ∨ (s.station.mode = .unloaded ∧ s.station.rstnHigh = true))
    (hl : onLineFrames s.bus = []) (hw : Frame.wellFormed f = true) : receive f s = dispatchUnconfigured f s := by
  have hr : receives s = true := by rcases hm with hm | ⟨hm, hh⟩ <;> simp [receives, *]
  have hn : s.works = false := by rcases hm with hm | ⟨hm, -⟩ <;> simp [State.works, hm]
  simp [receive, hears, hr, winsLine, hl, hw, hn]

end

/-- Settles O16. -/
theorem unservedRequestsAreCounted : Obligations.UnservedRequestsAreCounted := by
  intro s src dst tag samples channels kind arg hl hd ignored dropped
  refine ⟨fun hm e => ⟨fun h => ?_, fun h => ?_⟩, fun hs hm ho => ⟨?_, ?_⟩⟩
  · subst e
    exact congrArg Host.Outcome.next (receive_plain h (wellFormed_measure h.1.2.1 hd hl) (.inr rfl) (by simp) (by simp)
      (t := bump .requestsIgnored s) (fun _ _ => takeMeasure_of_not_active hm) rfl)
  · subst e
    rw [queryCommand_eq]
    exact congrArg Host.Outcome.next (receive_plain h (wellFormed_query h.1.2.1 hd) (.inr rfl) (by simp) (by simp)
      (t := bump .queriesDropped s) (fun _ _ => takeQuery_of_not_active hm) rfl)
  · have hn : s.station.mode ≠ .active := by rcases hm with hm | ⟨hm, -⟩ <;> simp [hm]
    refine congrArg Host.Outcome.next ((receive_unconfigured hm ho (wellFormed_measure hs hd hl)).trans ?_)
    exact takeMeasure_of_not_active hn
  · have hn : s.station.mode ≠ .active := by rcases hm with hm | ⟨hm, -⟩ <;> simp [hm]
    rw [queryCommand_eq, receive_unconfigured hm ho (wellFormed_query hs hd)]
    exact congrArg Host.Outcome.next (takeQuery_of_not_active hn)

end Sys2Proof.Machine
end
section
/-! Sweeps: acceptance (O18), the call timer (O19) and the deadline (O20). -/

namespace Sys2Proof.Machine

open Sys2Proof.Safety

/-! The expected set (R55) -/

theorem setHas_expectedNow (s : State) {a : Nat} (ha : a < 32) :
    setHas (expectedNow s) a = true ↔ ExpectsAt s a ∨ (MeasuresSweeps s ∧ a = s.own.toNat) := by
  have expects (p : Peer) : expectedPeer p = true ↔ p.state = .present ∧ ∃ i, p.info = some i ∧ i.participation = true := by
    unfold expectedPeer
    rcases p.info with _ | i <;> simp
  have peers : setHas (setOf 32 ((s.roster.peers.filter (fun q => expectedPeer q.2)).map Prod.fst)) a = true ↔ ExpectsAt s a := by
    rw [setHas_setOf ha]
    simp only [List.mem_map, List.mem_filter, Prod.exists, exists_and_right, exists_eq_right, expects, ExpectsAt]
    constructor
    · rintro ⟨p, hp, h1, i, h2, h3⟩
      exact ⟨p, i, hp, h1, h2, h3⟩
    · rintro ⟨p, i, hp, h1, h2, h3⟩
      exact ⟨p, hp, h1, i, h2, h3⟩
  have measures : (s.isActive && s.cfg.sweepSet != 0) = true ↔ MeasuresSweeps s := by
    simp [MeasuresSweeps, isActive_iff]
  simp only [expectedNow]
  by_cases hm : MeasuresSweeps s
  · rw [if_pos (measures.mpr hm), setHas_setInsert _ _ _ s.own.isLt, Bool.or_eq_true, peers, decide_eq_true_eq, @eq_comm Nat a, and_iff_right hm]
  · rw [if_neg (fun e => hm (measures.mp e)), peers]
    exact ⟨.inl, fun h => h.resolve_right fun e => hm e.1⟩

/-! Acceptance at a station without watches (R50) -/

/-- The CURRENT tally as it stands behind a newer one (R50 steps 4 and 5). -/
theorem supersede_of_no_watches {s : State} (h : s.cfg.watches = []) :
    (supersede s).sweeps.current = s.sweeps.current.map (fun c => if c.state = .opened then { c with state := .superseded } else c) ∧
    supersede s = { s with sweeps := { s.sweeps with current := (supersede s).sweeps.current, deadline := (supersede s).sweeps.deadline } } := by
  unfold supersede
  split
  next t ht =>
    obtain ⟨hc, ho⟩ := openTally_eq_some.mp ht
    rw [closeTally_of_no_watches h]
    simp [hc, ho]
  next hn =>
    refine ⟨?_, rfl⟩
    rcases hc : s.sweeps.current with _ | c
    · rfl
    · have : c.state ≠ .opened := fun ho => by simp [openTally_eq_some.mpr ⟨hc, ho⟩] at hn
      simp [this]

/-- Steps 5 and 6 of R50. -/
theorem openNew_of_no_watches {s : State} (h : s.cfg.watches = []) (n : Count) :
    openNew n s = { s with sweeps := { s.sweeps with
      current := some { number := n, state := if expectedNow s = 0 then .complete else .opened, expected := expectedNow s, reported := 0,
                        extra := 0 }
      previous := s.sweeps.current
      deadline := if expectedNow s = 0 then none else some s.cfg.deadline } } := by
  unfold openNew
  by_cases he : expectedNow s = 0
  · simp only [he, if_true]
    refine (closeTally_of_no_watches ?_ _ _).trans rfl
    exact h
  · simp only [he, if_false]

theorem offerOwnSweep_eq (n : Count) (s : State) : offerOwnSweep n s =
    { s with
      converter := if MeasuresSweeps s
        then Converter.proceed { s.converter with sweep := some { channels := s.cfg.sweepSet, samples := s.cfg.sweepSamples, cause := .sweep n, progress := [] } }
        else s.converter
      counters := if MeasuresSweeps s ∧ s.converter.sweep.isSome = true
        then { s.counters with sweepsSuperseded := satInc s.counters.sweepsSuperseded } else s.counters } := by
  have measures : (s.isActive && s.cfg.sweepSet != 0) = true ↔ MeasuresSweeps s := by simp [MeasuresSweeps, isActive_iff]
  unfold offerOwnSweep
  by_cases hm : MeasuresSweeps s
  · rw [if_pos (measures.mpr hm), if_pos hm]
    by_cases hs : s.converter.sweep.isSome = true
    · rw [if_pos ⟨hm, hs⟩]
      simp only [offerSweep, hs, if_true]
      rfl
    · rw [if_neg fun e => hs e.2]
      simp only [offerSweep, hs]
      rfl
  · rw [if_neg (fun e => hm (measures.mp e)), if_neg hm, if_neg fun e => hm e.1]

theorem withdrawSweep_eq (s : State) : withdrawSweep s = { s with bus := { s.bus with
    queue := (s.bus.queue.filter (fun q => !QueuedFrame.isOf .sweepUnit q || q.onLine)).map
      (fun q => if QueuedFrame.isOf .sweepUnit q then { q with withdrawn := true } else q) } } := by
  simp only [withdrawSweep, isSweepFrame, Bool.not_and, Bool.not_not]
  rfl

/-- The seven steps of R50. -/
theorem acceptSweep_of_no_watches {s : State} (h : s.cfg.watches = []) (n : Count) :
    acceptSweep n s = sweepAccepted n (expectedNow s) s := by
  let u := withdrawSweep (noteAccepted n s)
  obtain ⟨hc, hu⟩ := supersede_of_no_watches (s := u) h
  have ho := openNew_of_no_watches (s := supersede u) (by rw [hu]; exact h) n
  have he : expectedNow (supersede u) = expectedNow s := by rw [hu]; rfl
  rw [acceptSweep, ho, offerOwnSweep_eq, he]
  rw [hc, hu]
  simp only [u, withdrawSweep_eq]
  rfl

/-! A tally opened by a frame: the frame's own source (R55, log entry 6) -/

/-- A record is still in the map after a change of one key, or it was the one that a look-up of the key found. -/
theorem Map.mem_set_of_mem {α : Type} {m : Map α} {e : Nat × α} (h : e ∈ m) (k : Nat) (v : α) :
    e ∈ Map.set m k v ∨ (e.1 = k ∧ Map.find m k = some e.2) := by
  induction m with
  | nil => simp at h
  | cons p m ih =>
    obtain ⟨j, w⟩ := p
    unfold Map.set
    split
    · exact .inl (List.mem_cons_of_mem _ h)
    · rcases List.mem_cons.mp h with rfl | hm
      · split
        · next hjk => exact .inr ⟨hjk.symm, by simp [Map.find, hjk]⟩
        · exact .inl List.mem_cons_self
      · split
        · exact .inl (List.mem_cons_of_mem _ hm)
        · next hne =>
          have hjk : ¬ j = k := fun e => hne e.symm
          rcases ih hm with hs | hf
          · exact .inl (List.mem_cons_of_mem _ hs)
          · exact .inr ⟨hf.1, by simpa [Map.find, hjk] using hf.2⟩

theorem expectsAt_heardFrom {s : State} {a : Nat} (h : ExpectsAt s a) (src : Addr) :
    ExpectsAt (heardFrom s src (knownInfo s src)) a := by
  obtain ⟨q, i, hq, hp, hi, hpart⟩ := h
  rcases Map.mem_set_of_mem hq src.toNat _ with hs | ⟨rfl, hf⟩
  · exact ⟨q, i, hs, hp, hi, hpart⟩
  · exact ⟨_, i, Map.mem_of_find (Map.find_set_self ..), rfl, by simp only [knownInfo, hf]; exact hi, hpart⟩

/-- A station that the tally expects for the frame's sake is the frame's source, and its last PRESENCE said that it takes part. -/
theorem of_expectsAt_heardFrom {s : State} {src : Addr} {a : Nat} (h : ExpectsAt (heardFrom s src (knownInfo s src)) a) :
    ExpectsAt s a ∨ (a = src.toNat ∧ ∃ q i, s.roster.peers.find src.toNat = some q ∧ q.info = some i ∧ i.participation = true) := by
  obtain ⟨q, i, hq, hp, hi, hpart⟩ := h
  rcases Map.mem_set_cases hq with e | hm
  · obtain ⟨rfl, rfl⟩ := Prod.mk.inj e
    obtain ⟨r, hr, hri⟩ := Option.bind_eq_some_iff.mp hi
    exact .inr ⟨rfl, r, i, hr, hri, hpart⟩
  · exact .inl ⟨q, i, hm, hp, hi, hpart⟩

/-- A frame from a peer that is PRESENT already changes nobody's part in a tally. -/
theorem expectedNow_heardFrom {s : State} {src : Addr} {p : Peer} (hf : s.roster.peers.find src.toNat = some p) (hp : p.state = .present) :
    expectedNow (heardFrom s src (knownInfo s src)) = expectedNow s := by
  refine BitVec.eq_of_getLsbD_eq fun a ha => Bool.eq_iff_iff.mpr ?_
  change setHas _ a = true ↔ setHas _ a = true
  rw [setHas_expectedNow _ ha, setHas_expectedNow _ ha]
  refine or_congr ⟨fun h => ?_, fun h => expectsAt_heardFrom h src⟩ .rfl
  refine (of_expectsAt_heardFrom h).elim id ?_
  rintro ⟨rfl, q, i, hq, hi, hpart⟩
  have : q = p := Option.some.inj (hq.symm.trans hf)
  exact ⟨q, i, Map.mem_of_find hq, this ▸ hp, hi, hpart⟩

theorem wellFormed_sweep {src : Addr} {n : Count} (hs : isStation src.toNat = true) :
    Frame.wellFormed { src := src, dst := 31, body := .sweep n } = true := by
  simp [Frame.wellFormed, Body.lengthOk, Body.broadcast, Body.fieldsOk, hs, allStations]

theorem acceptable_iff (n : Count) (last : Option Count) : acceptable n last = true ↔ ∀ l, last = some l → newer n l = true := by
  cases last <;> simp [acceptable]

/-- Settles O18: the roster's part of a SWEEP from a peer that is PRESENT shows in no expected set. -/
theorem sweepIsAcceptedOrStale : Obligations.SweepIsAcceptedOrStale := by
  intro s src n h heard
  have hw := wellFormed_sweep (n := n) h.1.2.1
  refine ⟨fun l hl hn => ?_, fun p hf hp hws ha => ⟨expectedNow s, fun a => setHas_expectedNow s, ?_⟩⟩
  · have stale : acceptable n s.sweeps.last = false := by rw [hl]; exact hn
    refine congrArg Host.Outcome.next (receive_plain h hw (.inl rfl) (by simp) (by simp) (t := bump .staleSweeps s) (fun _ _ => ?_) rfl)
    simp only [dispatch, takeSweep, stale, Bool.false_eq_true, if_false]
    rfl
  · have accepted (t : State) (ht : t.sweeps = s.sweeps) : takeSweep n t = acceptSweep n t := by
      rw [takeSweep, ht, if_pos ((acceptable_iff n _).mpr ha)]
    refine congrArg Host.Outcome.next ?_
    rw [receive_of_reaches h.1 hw (.inl rfl), dispatchRequester_eq_id (by simp)]
    refine anyOrder_id_induct (P := fun t => t = _) rfl ?_ ?_
    · rw [hear_of_plain (s := s) (t := { s with draws := s.draws + 1 }) h.2 (by simp) rfl rfl]
      refine (accepted heard rfl).trans ((acceptSweep_of_no_watches (s := heard) hws n).trans ?_)
      rw [expectedNow_heardFrom hf hp]
    · have first : dispatch { src := src, dst := 31, body := .sweep n } { s with draws := s.draws + 1 } =
          sweepAccepted n (expectedNow s) { s with draws := s.draws + 1 } :=
        (accepted { s with draws := s.draws + 1 } rfl).trans (acceptSweep_of_no_watches (s := { s with draws := s.draws + 1 }) hws n)
      rw [first]
      exact hear_of_plain (s := s) h.2 (by simp) rfl rfl

/-- Settles O19. -/
theorem callTimerCalls : Obligations.CallTimerCalls := by
  intro s ha hc restarted number
  have hs : s.isActive = true := (isActive_iff s).mpr ha
  have hn : callNumber s.sweeps.last = number := by
    cases h : s.sweeps.last <;> simp only [callNumber, number, h]
  have hd : (isDue s.sweeps.call && s.isActive) = true := by simp [isDue, hc, hs]
  refine ⟨fun h => ?_, fun h => ?_⟩
  · have free : quotaFree .sweepUnit restarted = true := by
      simp only [quotaFree, restarted, h]
      rfl
    simp only [exec, execCallTimerExpiry, callExpiry, hd, if_true, hn]
    exact congrArg Host.Outcome.next (if_pos free)
  · have full : ¬ quotaFree .sweepUnit restarted = true := by
      simpa [quotaFree, restarted, Producer.quota] using Nat.pos_iff_ne_zero.mp h
    simp only [exec, execCallTimerExpiry, callExpiry, hd, if_true]
    exact congrArg Host.Outcome.next (if_neg full)

/-! A close notice on which no watch is evaluated (R88, R90) -/

theorem getElem?_updateAt {α : Type} (f : α → α) (n : Nat) (l : List α) (i : Nat) :
    (updateAt f n l)[i]? = if i = n then l[i]?.map f else l[i]? := by
  induction l generalizing n i with
  | nil => cases n <;> simp [updateAt]
  | cons a l ih => cases n <;> cases i <;> simp [updateAt, ih]

theorem getElem?_foldl_updateAt {α : Type} (f : α → α) {ns : List Nat} (h : ns.Nodup) (l : List α) (i : Nat) :
    (ns.foldl (fun l n => updateAt f n l) l)[i]? = if i ∈ ns then l[i]?.map f else l[i]? := by
  induction ns generalizing l with
  | nil => simp
  | cons n ns ih =>
    obtain ⟨hn, hns⟩ := List.nodup_cons.mp h
    rw [List.foldl_cons, ih hns, getElem?_updateAt]
    by_cases hi : i = n
    · subst hi
      simp [hn]
    · simp [hi]

/-- A skipped evaluation (R90). -/
def WatchRun.missedOnce (r : WatchRun) : WatchRun := { r with missed := satInc r.missed }

theorem sweepValue_eq_none {n : Count} {t : Map Entry} (h : ∀ p ∈ t, ∀ v, p.2.sweep = some v → v.number ≠ n) (k : Nat) :
    sweepValue n t k = none := by
  unfold sweepValue
  split
  next e he =>
    rcases hv : e.sweep with _ | v
    · rfl
    · simp [h _ (Map.mem_of_find he) v hv]
  · rfl

theorem evaluateWatch_of_none {v : Map Entry → Nat → Option Int} {s : State} (h : ∀ k, v s.table k = none) {w : Nat} (hw : w < s.cfg.watches.length) :
    evaluateWatch v w s = { s with watches := updateAt WatchRun.missedOnce w s.watches } := by
  have hc : s.cfg.watches[w]? = some s.cfg.watches[w] := List.getElem?_eq_getElem hw
  have hx (c : WatchConfig) : evaluatedValue (v s.table) c = none := by
    unfold evaluatedValue
    split <;> simp [h]
  unfold evaluateWatch
  rcases hr : s.watches[w]? with _ | r
  · rw [hc]
    have : updateAt WatchRun.missedOnce w s.watches = s.watches := by
      refine List.ext_getElem? fun i => ?_
      rw [getElem?_updateAt]
      split
      next e => rw [e, hr]; rfl
      · rfl
    rw [this]
  · rw [hc]
    simp only [hx, evaluate, setRun, updateAt_eq_set _ _ _ _ hr]
    rfl

theorem foldl_evaluateWatch_of_none {v : Map Entry → Nat → Option Int} (s : State) (h : ∀ k, v s.table k = none) {ws : List Nat}
    (hw : ∀ w ∈ ws, w < s.cfg.watches.length) (l : List WatchRun) :
    ws.foldl (fun s w => evaluateWatch v w s) { s with watches := l } =
      { s with watches := ws.foldl (fun l w => updateAt WatchRun.missedOnce w l) l } := by
  induction ws generalizing l with
  | nil => rfl
  | cons w ws ih =>
    obtain ⟨h1, h2⟩ := List.forall_mem_cons.mp hw
    rw [List.foldl_cons, List.foldl_cons, evaluateWatch_of_none (s := { s with watches := l }) h h1]
    exact ih h2 _

/-- The close notice of a sweep of which the table holds no value. -/
theorem closeNotice_of_no_value {s : State} {n : Count} (hl : s.watches.length = s.cfg.watches.length)
    (h : ∀ p ∈ s.table, ∀ v, p.2.sweep = some v → v.number ≠ n) :
    closeNotice n s = { s with
      watches := List.zipWith
        (fun c r => if c.moment = .onSweep then { r with missed := satInc r.missed } else r) s.cfg.watches s.watches } := by
  have hns : ((watchIndices s).filter (onSweepOf s.cfg)).Nodup := List.nodup_range.filter _
  have hlt : ∀ w ∈ (watchIndices s).filter (onSweepOf s.cfg), w < s.cfg.watches.length := fun w hw =>
    List.mem_range.mp (List.mem_of_mem_filter hw)
  refine (foldl_evaluateWatch_of_none s (sweepValue_eq_none h) hlt s.watches).trans ?_
  refine congrArg (fun l => { s with watches := l }) (List.ext_getElem? fun i => ?_)
  rw [getElem?_foldl_updateAt _ hns, List.getElem?_zipWith]
  by_cases hi : i < s.cfg.watches.length
  · rw [List.getElem?_eq_getElem hi, List.getElem?_eq_getElem (hl ▸ hi)]
    have : i ∈ (watchIndices s).filter (onSweepOf s.cfg) ↔ s.cfg.watches[i].moment = .onSweep := by
      simp [watchIndices, onSweepOf, hi]
    simp only [this]
    split <;> simp [WatchRun.missedOnce, *]
  · rw [List.getElem?_eq_none (by omega), List.getElem?_eq_none (by omega)]
    simp

/-- Settles O20: no ON_SWEEP watch finds its values. -/
theorem deadlineClosesIncomplete : Obligations.DeadlineClosesIncomplete := by
  intro s t hw hd hc ho hl hv
  have due : (isDue s.sweeps.deadline && s.works) = true := by simp [isDue, hd, hw]
  simp only [exec, execSweepDeadlineExpiry, deadlineExpiry, due, if_true, openTally_eq_some.mpr ⟨hc, ho⟩]
  exact congrArg Host.Outcome.next (closeNotice_of_no_value
    (s := { s with sweeps := { s.sweeps with current := some { t with state := .incomplete }, deadline := none } }) hl hv)

end Sys2Proof.Machine
end
section
/-! A RESULT from a peer: the roster, the requester and the rest take it in any order (O21, O23). -/

namespace Sys2Proof.Machine

open Sys2Proof.Safety

/-! The requester's part (R123, R128) -/

theorem mem_batchKeys {station : Addr} {items : List Item} {k : Nat} :
    k ∈ batchKeys station items ↔ k ∈ items.map (fun it => keyIx station it.channel.toNat) := by
  simp only [batchKeys, List.mem_map, List.mem_filter, List.mem_range, List.any_eq_true, beq_iff_eq]
  constructor
  · rintro ⟨c, ⟨-, it, hit, rfl⟩, rfl⟩
    exact ⟨it, hit, rfl⟩
  · rintro ⟨it, hit, rfl⟩
    exact ⟨it.channel.toNat, ⟨it.channel.isLt, it, hit, rfl⟩, rfl⟩

theorem Map.find_foldl_erase {α : Type} (l : List Nat) (m : Map α) (j : Nat) :
    Map.find (l.foldl (fun h k => Map.erase h k) m) j = if j ∈ l then none else Map.find m j := by
  induction l generalizing m with
  | nil => simp
  | cons k l ih =>
    rw [List.foldl_cons, ih, Map.find_erase]
    by_cases h1 : j = k <;> by_cases h2 : j ∈ l <;> simp [h1, h2]

/-- The hold-offs that a RESULT leaves (R123). -/
def endedHoldOffs (s : State) (src : Addr) (items : List Item) : Map Nat :=
  (batchKeys src items).foldl (fun h k => Map.erase h k) s.requester.holdOffs

theorem holdOffsEnded_endedHoldOffs (s : State) (src : Addr) (items : List Item) : HoldOffsEnded s src items (endedHoldOffs s src items) := by
  intro k
  rw [endedHoldOffs, Map.find_foldl_erase]
  simp only [mem_batchKeys]

/-- The pending table that a RESULT leaves (R128). -/
def unanswered (s : State) (src : Addr) (cause : Cause) : List PendingEntry :=
  s.requester.pending.filter (fun e => !decide (e.target = src ∧ cause = .measure (s.own.setWidth 8) e.tag))

theorem unanswered_of_not_asked {s : State} {src : Addr} (h : ∀ x ∈ s.requester.pending, x.target ≠ src) (cause : Cause) :
    unanswered s src cause = s.requester.pending :=
  List.filter_eq_self.mpr fun x hx => by simp [h x hx]

theorem unanswered_of_sweep (s : State) (src : Addr) (k : Count) : unanswered s src (.sweep k) = s.requester.pending :=
  List.filter_eq_self.mpr fun x _ => by simp

/-- The requester after a RESULT. -/
def afterResult (s : State) (src : Addr) (cause : Cause) (items : List Item) : Requester :=
  { s.requester with holdOffs := endedHoldOffs s src items, pending := unanswered s src cause }

theorem answered_eq (src : Addr) (cause : Cause) (s : State) :
    answered src cause s = { s with requester := { s.requester with pending := unanswered s src cause } } := by
  have same : ({ s with requester := { s.requester with pending := s.requester.pending } } : State) = s := rfl
  have keep (h : ∀ t : Tag, cause ≠ .measure (s.own.setWidth 8) t) : unanswered s src cause = s.requester.pending :=
    List.filter_eq_self.mpr fun x _ => by simp [h]
  unfold answered
  split
  next r t =>
    have own : r.toNat = s.own.toNat ↔ r = s.own.setWidth 8 := by
      rw [BitVec.toNat_eq, BitVec.toNat_setWidth_of_le (by decide)]
    by_cases hr : r.toNat = s.own.toNat
    · rw [if_pos hr]
      have : unanswered s src (.measure r t) = s.requester.pending.filter (fun e => !(e.tag == t && e.target == src)) := by
        refine List.filter_congr fun e _ => congrArg _ (Bool.eq_iff_iff.mpr ?_)
        rw [own.mp hr]
        simp only [decide_eq_true_eq, Cause.measure.injEq, true_and, Bool.and_eq_true, beq_iff_eq]
        exact ⟨fun h => ⟨h.2.symm, h.1⟩, fun h => ⟨h.2, h.1.symm⟩⟩
      rw [this]
    · rw [if_neg hr, keep fun t' e => hr (own.mpr (Cause.measure.inj e).1)]
  all_goals rw [keep (by simp)]

theorem requesterResult_of_quiet {s t : State} (h : RequesterQuiet s) (hq : t.requester = s.requester) (ho : t.own = s.own) (src : Addr)
    (cause : Cause) (items : List Item) : requesterResult src cause items t = { t with requester := afterResult s src cause items } := by
  have hu : unanswered t src cause = unanswered s src cause := by simp only [unanswered, hq, ho]
  simp only [requesterResult, answered_eq, hu, hq]
  refine pump_of_quiet ⟨h.1, fun e he => h.2 e (List.mem_of_mem_filter he)⟩

/-! The three parts together -/

theorem wellFormed_result {src : Addr} {cause : Cause} {items : List Item} (hs : isStation src.toNat = true) (hc : Cause.inRange cause = true)
    (h1 : 1 ≤ items.length) (h8 : items.length ≤ 8) :
    Frame.wellFormed { src := src, dst := 31, body := .result cause items } = true := by
  simp [Frame.wellFormed, Body.lengthOk, Body.broadcast, Body.fieldsOk, hs, hc, h1, h8, allStations]

/-- Three parts in any order: one sets the roster, one the requester, and what the third makes of the rest depends on the roster alone. -/
theorem anyOrder_apart {f g h : State → State} {s : State} {R : Roster} {Q : Requester} {Good : State → Prop}
    (hf : ∀ t, t.roster = s.roster → t.time = s.time → f t = { t with roster := R })
    (hh : ∀ t, t.requester = s.requester → t.station = s.station → h t = { t with requester := Q })
    (hg : ∀ r, r = s.roster ∨ r = R → ∃ t, Good t ∧ t.time = s.time ∧ t.station = s.station ∧
      ∀ q n, g { s with roster := r, requester := q, draws := n } = { t with roster := r, requester := q, draws := n }) :
    ∃ t, Good t ∧ anyOrder f g h s = { t with roster := R, requester := Q, draws := s.draws + 1 } := by
  obtain ⟨t0, good0, time0, station0, g0⟩ := hg s.roster (.inl rfl)
  obtain ⟨t1, good1, -, station1, g1⟩ := hg R (.inr rfl)
  have f1 : f { s with draws := s.draws + 1 } = { s with roster := R, draws := s.draws + 1 } := hf _ rfl rfl
  have h1 : h { s with draws := s.draws + 1 } = { s with requester := Q, draws := s.draws + 1 } := hh _ rfl rfl
  have hf1 : h { s with roster := R, draws := s.draws + 1 } = { s with roster := R, requester := Q, draws := s.draws + 1 } := hh _ rfl rfl
  have fh1 : f { s with requester := Q, draws := s.draws + 1 } = { s with roster := R, requester := Q, draws := s.draws + 1 } := hf _ rfl rfl
  have gf1 : g { s with roster := R, draws := s.draws + 1 } = { t1 with roster := R, requester := s.requester, draws := s.draws + 1 } :=
    g1 s.requester _
  have gs : g { s with draws := s.draws + 1 } = { t0 with roster := s.roster, requester := s.requester, draws := s.draws + 1 } :=
    g0 s.requester _
  have gh1 : g { s with requester := Q, draws := s.draws + 1 } = { t0 with roster := s.roster, requester := Q, draws := s.draws + 1 } := g0 Q _
  refine anyOrder_induct (P := fun u => ∃ t, Good t ∧ u = { t with roster := R, requester := Q, draws := s.draws + 1 }) rfl
    ⟨t1, good1, ?_⟩ ⟨t1, good1, ?_⟩ ⟨t0, good0, ?_⟩ ⟨t0, good0, ?_⟩ ⟨t1, good1, ?_⟩ ⟨t0, good0, ?_⟩
  · rw [f1, gf1]
    exact hh _ rfl station1
  · rw [f1, hf1]
    exact g1 Q _
  · rw [gs, hf { t0 with roster := s.roster, requester := s.requester, draws := s.draws + 1 } rfl time0]
    exact hh _ rfl station0
  · rw [gs, hh { t0 with roster := s.roster, requester := s.requester, draws := s.draws + 1 } rfl station0]
    exact hf _ rfl time0
  · rw [h1, fh1]
    exact g1 Q _
  · rw [h1, gh1]
    exact hf _ rfl time0

/-- A RESULT from a peer that is not LOST, to a requester with nothing to ask for: what the value table and the sweep unit make of it depends
on the roster alone, as it was or as it has become (R159, log entries 6 and 9). -/
theorem receive_result {s : State} {src : Addr} {cause : Cause} {items : List Item} (h : FromPeer s src (.result cause items))
    (hw : Frame.wellFormed { src := src, dst := 31, body := .result cause items } = true) (quiet : RequesterQuiet s) {Good : State → Prop}
    (block : ∀ r, r = s.roster ∨ r = (heardFrom s src (knownInfo s src)).roster → ∃ t, Good t ∧
      ∀ q n, sweepResult src cause (applyBatch src cause items { s with roster := r, requester := q, draws := n }) =
        { t with roster := r, requester := q, draws := n }) :
    ∃ t, Good t ∧ exec (.rxResult src 31 cause items) s = .next { t with
      roster := (heardFrom s src (knownInfo s src)).roster, requester := afterResult s src cause items, draws := s.draws + 1 } := by
  obtain ⟨t, good, e⟩ := anyOrder_apart (f := hear src (.result cause items)) (g := dispatch { src := src, dst := 31, body := .result cause items })
    (h := dispatchRequester { src := src, dst := 31, body := .result cause items }) (Q := afterResult s src cause items)
    (fun u hr ht => hear_of_plain h.2 (by simp) hr ht)
    (fun u hq hs => requesterResult_of_quiet quiet hq (own_of_station hs) src cause items)
    (fun r hr => by
      obtain ⟨t, good, ht⟩ := block r hr
      have fields := ht s.requester s.draws
      exact ⟨t, good, by simpa using (congrArg State.time fields).symm, by simpa using (congrArg State.station fields).symm, ht⟩)
  exact ⟨t, good, congrArg Host.Outcome.next ((receive_of_reaches h.1 hw (.inl rfl)).trans e)⟩

/-- A RESULT of a cause other than SWEEP is nothing to the sweep unit (R48). -/
theorem sweepResult_of_not_sweep {cause : Cause} (h : Cause.cls cause ≠ .sweep) (src : Addr) (s : State) : sweepResult src cause s = s := by
  unfold sweepResult
  split <;> first | rfl | simp [Cause.cls] at h

/-- A RESULT that the value table, the watches and the sweep unit take without a look at the roster and the requester. -/
theorem exec_result {s t : State} {src : Addr} {cause : Cause} {items : List Item} (h : FromPeer s src (.result cause items))
    (hc : Cause.inRange cause = true) (h1 : 1 ≤ items.length) (h8 : items.length ≤ 8) (quiet : RequesterQuiet s)
    (block : ∀ r q n, sweepResult src cause (applyBatch src cause items { s with roster := r, requester := q, draws := n }) =
      { t with roster := r, requester := q, draws := n }) :
    exec (.rxResult src 31 cause items) s = .next { t with
      roster := (heardFrom s src (knownInfo s src)).roster, requester := afterResult s src cause items, draws := s.draws + 1 } := by
  obtain ⟨u, hu, e⟩ := receive_result h (wellFormed_result h.1.2.1 hc h1 h8) quiet (Good := (· = t)) fun r _ => ⟨t, rfl, block r⟩
  exact hu ▸ e

/-- A RESULT of a cause other than SWEEP. -/
theorem exec_result_of_not_sweep {s t : State} {src : Addr} {cause : Cause} {items : List Item} (h : FromPeer s src (.result cause items))
    (hc : Cause.inRange cause = true) (hs : Cause.cls cause ≠ .sweep) (h1 : 1 ≤ items.length) (h8 : items.length ≤ 8) (quiet : RequesterQuiet s)
    (block : ∀ r q n, applyBatch src cause items { s with roster := r, requester := q, draws := n } =
      { t with roster := r, requester := q, draws := n }) :
    exec (.rxResult src 31 cause items) s = .next { t with
      roster := (heardFrom s src (knownInfo s src)).roster, requester := afterResult s src cause items, draws := s.draws + 1 } :=
  exec_result h hc h1 h8 quiet fun r q n => (sweepResult_of_not_sweep hs src _).trans (block r q n)

theorem inChannelOrder_singleton (it : Item) : inChannelOrder [it] = [it] :=
  List.perm_singleton.mp (inChannelOrder_perm (List.nodup_singleton _))

theorem batchKeys_singleton (station : Addr) (it : Item) : batchKeys station [it] = [keyIx station it.channel.toNat] := by
  have one : (List.range 8).filter (fun c => [it].any (fun i => i.channel.toNat == c)) = [it.channel.toNat] := by
    have : ∀ c : Channel, (List.range 8).filter (fun d => c.toNat == d) = [c.toNat] := by decide
    simpa using this it.channel
  rw [batchKeys, one]
  rfl

theorem makeRoom_of_room {s : State} (h : s.table.length < 48) (batch : List Nat) (k : Nat) : makeRoom batch k s = s := by
  have : ¬ 48 ≤ s.table.length := by omega
  simp [makeRoom, tableCapacity, this]

/-- An update of a key that a table with room does not hold (R67, R68): a cached entry, and nothing evicted. -/
theorem applyUpdate_of_new {s : State} {station : Addr} {it : Item} (h : s.table.find (keyIx station it.channel.toNat) = none)
    (room : s.table.length < 48) (batch : List Nat) (cause : Cause) :
    applyUpdate batch station cause s it =
      { s with table := s.table.set (keyIx station it.channel.toNat) (renewedEntry s it cause emptyEntry) } := by
  have hr : ¬ 48 ≤ s.table.length := by omega
  simp only [applyUpdate, makeRoom_of_room room, h, tableCapacity, hr, decide_false, Bool.and_false, Bool.false_eq_true, if_false, Option.getD_none,
    updated_eq_renewedEntry]
  rfl

/-- Settles O21. -/
theorem resultUpdatesTable : Obligations.ResultUpdatesTable := by
  intro s src cause items h hc hs h1 h8 hw quiet pending
  refine ⟨fun hk => ⟨_, _, renewedBy_batchTable hk cause, holdOffsEnded_endedHoldOffs s src items, ?_⟩, ?_⟩
  · exact exec_result_of_not_sweep h hc hs h1 h8 quiet (t := { s with table := batchTable s src cause items }) fun r q n =>
      applyBatch_of_held (s := { s with roster := r, requester := q, draws := n }) hw hk cause
  · rintro it rfl hn room
    refine ⟨s.table.set (keyIx src it.channel.toNat) (renewedEntry s it cause emptyEntry), _, fun x => Map.find_set .., holdOffsEnded_endedHoldOffs s src [it], ?_⟩
    refine exec_result_of_not_sweep h hc hs h1 h8 quiet
      (t := { s with table := s.table.set (keyIx src it.channel.toNat) (renewedEntry s it cause emptyEntry) }) fun r q n => ?_
    rw [applyBatch_of_no_watches (s := { s with roster := r, requester := q, draws := n }) hw, inChannelOrder_singleton]
    exact applyUpdate_of_new (s := { s with roster := r, requester := q, draws := n }) hn room _ cause

/-! The victim of an eviction (R71) -/

/-- Of two entries, the second is evicted before the first: it is older, or as old and before it in key order. -/
abbrev GoesBefore (now : Time) (p q : Nat × Entry) : Prop :=
  entryAge now p.2 < entryAge now q.2 ∨ (entryAge now p.2 = entryAge now q.2 ∧ q.1 ≤ p.1)

theorem oldest_spec (now : Time) {l : List (Nat × Entry)} (h : Map.wf l) {p : Nat × Entry} (hp : p ∈ l) :
    ∃ q ∈ l, oldest now l = some q ∧ ∀ x ∈ l, GoesBefore now x q := by
  induction l generalizing p with
  | nil => simp at hp
  | cons a l ih =>
    obtain ⟨ha, hl⟩ := List.pairwise_cons.mp h
    have first : ∀ x ∈ l, a.1 < x.1 := fun x hx => ha _ (List.mem_map_of_mem hx)
    rcases l with _ | ⟨b, l⟩
    · exact ⟨a, List.mem_cons_self, rfl, by simp [GoesBefore]⟩
    · obtain ⟨q, hq, ho, hall⟩ := ih hl List.mem_cons_self
      rw [oldest, ho]
      by_cases hlt : entryAge now a.2 < entryAge now q.2
      · refine ⟨q, List.mem_cons_of_mem _ hq, by simp only [hlt, if_true], List.forall_mem_cons.mpr ⟨.inl hlt, hall⟩⟩
      · refine ⟨a, List.mem_cons_self, by simp only [hlt, if_false], List.forall_mem_cons.mpr ⟨.inr ⟨rfl, le_rfl⟩, fun x hx => ?_⟩⟩
        have := first x hx
        rcases hall x hx with h1 | ⟨h1, -⟩ <;> simp only [GoesBefore] <;> omega

theorem oldest_eq {now : Time} {l : List (Nat × Entry)} (h : Map.wf l) {v : Nat} {e : Entry} (hv : (v, e) ∈ l)
    (hall : ∀ p ∈ l, GoesBefore now p (v, e)) : (oldest now l).map Prod.fst = some v := by
  obtain ⟨q, hq, ho, hall'⟩ := oldest_spec now h hv
  have h1 := hall q hq
  have h2 := hall' _ hv
  simp only [GoesBefore] at h1 h2
  rw [ho, Option.map_some]
  exact congrArg some (by omega)

theorem victim_eq {batch : List Nat} {now : Time} {t : Map Entry} {v : Nat} {e : Entry} (ht : Map.wf t) (hv : (v, e) ∈ t)
    (he : e.pinned = false)
    (h : (v ∉ batch ∧ ∀ p ∈ t, p.2.pinned = false → p.1 ∉ batch → GoesBefore now p (v, e)) ∨
      ((∀ p ∈ t, p.2.pinned = false → p.1 ∈ batch) ∧ ∀ p ∈ t, p.2.pinned = false → GoesBefore now p (v, e))) :
    victim batch now t = some v := by
  have hc : (v, e) ∈ t.filter (fun p => !p.2.pinned) := by simp [hv, he]
  have wf := Map.wf_filter ht (fun p => !p.2.pinned)
  simp only [victim]
  rcases h with ⟨hb, hall⟩ | ⟨hb, hall⟩
  · have ho : (v, e) ∈ (t.filter (fun p => !p.2.pinned)).filter (fun p => !batch.contains p.1) := by
      simp [hv, he, hb]
    have hne : ((t.filter (fun p => !p.2.pinned)).filter (fun p => !batch.contains p.1)).isEmpty = false := by
      rw [List.isEmpty_eq_false_iff]
      exact List.ne_nil_of_mem ho
    rw [hne, if_neg (by decide)]
    refine oldest_eq (Map.wf_filter wf _) ho fun p hp => ?_
    simp only [List.mem_filter, Bool.not_eq_true', List.contains_eq_mem, decide_eq_false_iff_not] at hp
    exact hall p hp.1.1 hp.1.2 hp.2
  · have hem : ((t.filter (fun p => !p.2.pinned)).filter (fun p => !batch.contains p.1)).isEmpty = true := by
      rw [List.isEmpty_iff, List.filter_eq_nil_iff]
      intro p hp
      simp only [List.mem_filter, Bool.not_eq_true'] at hp
      simp [hb p hp.1 hp.2]
    rw [hem, if_pos rfl]
    refine oldest_eq wf hc fun p hp => ?_
    simp only [List.mem_filter, Bool.not_eq_true'] at hp
    exact hall p hp.1 hp.2

/-- An update of a new key at a full table (R68, R71). -/
theorem applyUpdate_of_full {s : State} {station : Addr} {it : Item} {batch : List Nat} {v : Nat} {e : Entry}
    (hn : s.table.find (keyIx station it.channel.toNat) = none) (full : s.table.length = 48) (hf : s.table.find v = some e)
    (hv : victim batch s.time s.table = some v) (cause : Cause) :
    applyUpdate batch station cause s it =
      { s with
        table := (s.table.erase v).set (keyIx station it.channel.toNat) (renewedEntry s it cause emptyEntry)
        counters := { s.counters with evictions := satInc s.counters.evictions } } := by
  let t := bump .evictions { s with table := s.table.erase v }
  have hm : makeRoom batch (keyIx station it.channel.toNat) s = t := by
    simp [makeRoom, hn, full, tableCapacity, hv, t]
  have hn' : t.table.find (keyIx station it.channel.toNat) = none := by
    change (s.table.erase v).find _ = none
    rw [Map.find_erase, hn, ite_self]
  have room : t.table.length < 48 := by
    have : (s.table.erase v).length < s.table.length :=
      List.length_filter_lt_length_iff_exists.mpr ⟨(v, e), Map.mem_of_find hf, by simp⟩
    exact full ▸ this
  have same : applyUpdate batch station cause s it = applyUpdate batch station cause t it := by simp only [applyUpdate, hm, makeRoom_of_room room]
  rw [same, applyUpdate_of_new hn' room]
  rfl

/-- Settles O23. -/
theorem evictionVictimIsOldestCached : Obligations.EvictionVictimIsOldestCached := by
  refine ⟨fun batch now t v e ht hv he h => victim_eq ht hv he h, ?_⟩
  intro s src cause it v e k h hc hs hw quiet ask wf full hn hf he hall
  have hk : v ∉ batchKeys src [it] := by
    rw [batchKeys_singleton, List.mem_singleton]
    rintro rfl
    rw [hf] at hn
    exact absurd hn (by simp)
  have hv : victim (batchKeys src [it]) s.time s.table = some v :=
    victim_eq wf (Map.mem_of_find hf) he (.inl ⟨hk, fun p hp hpin _ => hall p hp hpin⟩)
  refine ⟨(s.table.erase v).set k (renewedEntry s it cause emptyEntry), _, fun x => ?_, holdOffsEnded_endedHoldOffs s src [it], ?_⟩
  · rw [Map.find_set, Map.find_erase]
  · have e := exec_result_of_not_sweep (items := [it]) h hc hs (by simp) (by simp) quiet (t := { s with
        table := (s.table.erase v).set k (renewedEntry s it cause emptyEntry)
        counters := { s.counters with evictions := satInc s.counters.evictions } }) fun r q n => by
      rw [applyBatch_of_no_watches (s := { s with roster := r, requester := q, draws := n }) hw, inChannelOrder_singleton]
      exact applyUpdate_of_full (s := { s with roster := r, requester := q, draws := n }) hn full hf hv cause
    rw [e, afterResult, unanswered_of_not_asked ask]
    rfl

end Sys2Proof.Machine
end
section
/-! A RESULT with cause SWEEP: acceptance of a newer number, then the report (O22). -/

namespace Sys2Proof.Machine

open Sys2Proof.Safety

theorem sweepResult_of_stale {k : Count} {s : State} (h : acceptable k s.sweeps.last = false) (src : Addr) :
    sweepResult src (.sweep k) s = takeReport src.toNat k s := by simp [sweepResult, h]

theorem sweepResult_of_newer {k : Count} {s : State} (h : acceptable k s.sweeps.last = true) (hw : s.cfg.watches = []) (src : Addr) :
    sweepResult src (.sweep k) s = takeReport src.toNat k (sweepAccepted k (expectedNow s) s) := by
  simp [sweepResult, h, acceptSweep_of_no_watches hw]

/-- The first report for a tally that has just opened, or closed at once (R55, R56, R57). -/
def firstReport (station : Nat) (k : Count) (E : StationSet) (a : State) : State :=
  let R := setInsert 0 station
  let tally : Tally := { number := k, state := .opened, expected := E, reported := 0, extra := 0 }
  if E = 0 then { a with counters := { a.counters with lateResults := satInc a.counters.lateResults } }
  else if R = E then { a with
    sweeps := { a.sweeps with current := some { tally with reported := R, state := .complete }, deadline := none } }
  else if setHas E station then { a with sweeps := { a.sweeps with current := some { tally with reported := R } } }
  else { a with
    sweeps := { a.sweeps with current := some { tally with extra := 1 } }
    counters := { a.counters with extraReports := satInc a.counters.extraReports } }

theorem takeReport_sweepAccepted {s : State} (hw : s.cfg.watches = []) {station : Nat} (hs : station < 32) (k : Count) (E : StationSet) :
    takeReport station k (sweepAccepted k E s) = firstReport station k E (sweepAccepted k E s) := by
  unfold firstReport
  by_cases h0 : E = 0
  · simp only [h0, if_true]
    refine takeReport_of_late (fun t ht => .inl ?_) station
    obtain rfl := Option.some.inj ht
    simp
  · have current : (sweepAccepted k E s).sweeps.current =
        some { number := k, state := .opened, expected := E, reported := 0, extra := 0 } := by
      simp only [sweepAccepted, h0, if_false]
    simp only [h0, if_false]
    by_cases hm : setHas E station = true
    · rw [takeReport_of_expected (s := sweepAccepted k E s) hw current rfl rfl hm]
      simp only [hm, if_true]
      split <;> rfl
    · have hne : ¬ setInsert 0 station = E := by
        rintro rfl
        simp [setHas_setInsert _ _ _ hs] at hm
      rw [takeReport_of_extra current rfl rfl (by simpa using hm)]
      simp only [hne, hm, if_false]
      rfl

theorem sweepAccepted_counters (k : Count) (E : StationSet) (s : State) :
    (sweepAccepted k E s).counters.lateResults = s.counters.lateResults ∧
    (sweepAccepted k E s).counters.extraReports = s.counters.extraReports := by
  simp only [sweepAccepted]
  split <;> exact ⟨rfl, rfl⟩

/-- What R55 and log entry 6 say of the set that a tally opened by a frame of src expects. -/
structure ExpectedSet (s : State) (src : Addr) (E : StationSet) : Prop where
  others : ∀ a, a < 32 → a ≠ src.toNat → (setHas E a = true ↔ ExpectsAt s a ∨ (MeasuresSweeps s ∧ a = s.own.toNat))
  source : ExpectsAt s src.toNat → setHas E src.toNat = true
  known : setHas E src.toNat = true → ∃ q i, (src.toNat, q) ∈ s.roster.peers ∧ q.info = some i ∧ i.participation = true

theorem expectedSet_before {s : State} {src : Addr} (h : src ≠ s.own) : ExpectedSet s src (expectedNow s) where
  others a ha _ := setHas_expectedNow s ha
  source h := (setHas_expectedNow s src.isLt).mpr (.inl h)
  known hE := by
    rcases (setHas_expectedNow s src.isLt).mp hE with ⟨q, i, hq, -, hi⟩ | ⟨-, e⟩
    · exact ⟨q, i, hq, hi⟩
    · exact absurd (BitVec.eq_of_toNat_eq e) h

theorem expectedSet_after {s : State} {src : Addr} (h : src ≠ s.own) :
    ExpectedSet s src (expectedNow (heardFrom s src (knownInfo s src))) where
  others a ha hne := (setHas_expectedNow _ ha).trans (or_congr
    ⟨fun h => (of_expectsAt_heardFrom h).resolve_right fun e => hne e.1, fun h => expectsAt_heardFrom h src⟩ .rfl)
  source h := (setHas_expectedNow _ src.isLt).mpr (.inl (expectsAt_heardFrom h src))
  known hE := by
    rcases (setHas_expectedNow _ src.isLt).mp hE with he | ⟨-, e⟩
    · rcases of_expectsAt_heardFrom he with ⟨q, i, hq, -, hi⟩ | ⟨-, q, i, hq, hi⟩
      · exact ⟨q, i, hq, hi⟩
      · exact ⟨q, i, Map.mem_of_find hq, hi⟩
    · exact absurd (BitVec.eq_of_toNat_eq e) h

/-- The first report is apart from the roster, the requester and the draws. -/
theorem firstReport_apart (station : Nat) (k : Count) (E : StationSet) (s : State) (r : Roster) (q : Requester) (n : Nat) :
    firstReport station k E (sweepAccepted k E { s with roster := r, requester := q, draws := n }) =
      { firstReport station k E (sweepAccepted k E s) with roster := r, requester := q, draws := n } := by
  simp only [firstReport]
  split_ifs <;> rfl

/-- Settles O22. -/
theorem sweepResultIsReported : Obligations.SweepResultIsReported := by
  intro s src k items h h1 h8
  refine ⟨fun ha hw quiet hk => ?_, fun ha hw quiet hk => ?_⟩
  · let T := batchTable s src (.sweep k) items
    have block (r : Roster) (q : Requester) (n : Nat) :
        sweepResult src (.sweep k) (applyBatch src (.sweep k) items { s with roster := r, requester := q, draws := n }) =
          { firstReport src.toNat k (expectedNow { s with roster := r }) (sweepAccepted k (expectedNow { s with roster := r }) { s with table := T })
            with roster := r, requester := q, draws := n } := by
      rw [applyBatch_of_held (s := { s with roster := r, requester := q, draws := n }) hw hk]
      refine (sweepResult_of_newer (s := { s with table := T, roster := r, requester := q, draws := n }) ha hw src).trans ?_
      rw [takeReport_sweepAccepted (s := { s with table := T, roster := r, requester := q, draws := n }) hw src.isLt]
      exact firstReport_apart src.toNat k _ { s with table := T } r q n
    obtain ⟨t, ⟨E, hE, rfl⟩, e⟩ := receive_result h (wellFormed_result h.1.2.1 rfl h1 h8) quiet
      (Good := fun t => ∃ E, ExpectedSet s src E ∧ t = firstReport src.toNat k E (sweepAccepted k E { s with table := T }))
      (fun r hr => ⟨_, ⟨_, by
        rcases hr with rfl | rfl
        · exact expectedSet_before h.1.2.2.1
        · exact expectedSet_after h.1.2.2.1, rfl⟩, block r⟩)
    refine ⟨T, _, E, renewedBy_batchTable hk _, holdOffsEnded_endedHoldOffs s src items, hE.others, hE.source, hE.known, ?_⟩
    intro a R tally
    rw [e, ← firstReport_apart, afterResult, unanswered_of_sweep]
    have counters := sweepAccepted_counters k E { s with table := T }
    have late : a.counters.lateResults = s.counters.lateResults := counters.1
    have extra : a.counters.extraReports = s.counters.extraReports := counters.2
    rw [← late, ← extra]
    rfl
  · let done : State := { s with table := batchTable s src (.sweep k) items }
    refine ⟨_, _, renewedBy_batchTable hk _, holdOffsEnded_endedHoldOffs s src items, ?_⟩
    intro a
    have reported (t : State) (ht : ∀ r q n, takeReport src.toNat k { done with roster := r, requester := q, draws := n } =
        { t with roster := r, requester := q, draws := n }) : exec (.rxResult src 31 (.sweep k) items) s = .next { t with
          roster := a.roster, requester := a.requester, draws := a.draws } := by
      have e := exec_result (t := t) h rfl h1 h8 quiet fun r q n => ?_
      · rw [e, afterResult, unanswered_of_sweep]
        rfl
      rw [applyBatch_of_held (s := { s with roster := r, requester := q, draws := n }) hw hk]
      exact (sweepResult_of_stale (s := { done with roster := r, requester := q, draws := n }) ha src).trans (ht r q n)
    refine ⟨fun c hc ho hn hm => ?_, fun c hc ho hn hm => ?_, fun hl => ?_⟩
    · exact reported { done with sweeps := _ } fun r q n =>
        takeReport_of_expected (s := { done with roster := r, requester := q, draws := n }) hw hc ho hn hm
    · exact reported { done with sweeps := _, counters := _ } fun r q n =>
        takeReport_of_extra (s := { done with roster := r, requester := q, draws := n }) hc ho hn hm
    · exact reported { done with counters := _ } fun r q n =>
        takeReport_of_late (s := { done with roster := r, requester := q, draws := n }) hl _

end Sys2Proof.Machine
end
section
/-! The requester: the choice of tag and target (O29), one key issued and sent (O24, O25), attempts (O26, O27) and refusals (O28). -/

namespace Sys2Proof.Machine

open Sys2Proof.Safety

/-! The station served next (R126) -/

theorem head?_eq_some_iff_least {l : List Nat} (h : l.Pairwise (· < ·)) {a : Nat} : l.head? = some a ↔ a ∈ l ∧ ∀ c ∈ l, a ≤ c := by
  rcases l with _ | ⟨b, l⟩
  · simp
  · obtain ⟨hb, -⟩ := List.pairwise_cons.mp h
    rw [List.head?_cons, Option.some.injEq]
    constructor
    · rintro rfl
      exact ⟨List.mem_cons_self, List.forall_mem_cons.mpr ⟨le_rfl, fun c hc => (hb c hc).le⟩⟩
    · rintro ⟨ha, hall⟩
      rcases List.mem_cons.mp ha with rfl | ha
      · rfl
      · exact absurd (hall b List.mem_cons_self) (by have := hb a ha; omega)

theorem candidates_sorted {s : State} (h : Map.wf s.requester.wanted) : (candidates s).Pairwise (· < ·) := Map.wf_filter h _

theorem nextTarget_eq_none_iff (s : State) : nextTarget s = none ↔ candidates s = [] := by
  rw [nextTarget_eq, Option.or_eq_none_iff, List.head?_eq_none_iff, List.head?_eq_none_iff]
  exact ⟨fun h => h.2, fun h => ⟨List.eq_nil_of_subset_nil (h ▸ candidatesAbove_subset s), h⟩⟩

theorem nextTarget_eq_some_iff {s : State} (h : Map.wf s.requester.wanted) (a : Nat) :
    nextTarget s = some a ↔ a ∈ candidates s ∧
      match s.requester.served with
      | some b => if ∃ c ∈ candidates s, b.toNat < c then b.toNat < a ∧ ∀ c ∈ candidates s, b.toNat < c → a ≤ c
          else ∀ c ∈ candidates s, a ≤ c
      | none => ∀ c ∈ candidates s, a ≤ c := by
  have sorted := candidates_sorted h
  rw [nextTarget_eq, candidatesAbove]
  rcases s.requester.served with _ | b
  · exact head?_eq_some_iff_least sorted
  · dsimp only
    have mem (c : Nat) : c ∈ (candidates s).filter (fun c => decide (b.toNat < c)) ↔ c ∈ candidates s ∧ b.toNat < c := by simp
    by_cases hex : ∃ c ∈ candidates s, b.toNat < c
    · have hne : ((candidates s).filter (fun c => decide (b.toNat < c))).head? ≠ none := by
        rw [ne_eq, List.head?_eq_none_iff]
        obtain ⟨c, hc⟩ := hex
        exact List.ne_nil_of_mem ((mem c).mpr hc)
      rw [if_pos hex, Option.or_of_isSome (Option.isSome_iff_ne_none.mpr hne), head?_eq_some_iff_least (sorted.filter _), mem, and_assoc]
      simp only [mem, and_imp]
    · have hnil : (candidates s).filter (fun c => decide (b.toNat < c)) = [] :=
        List.filter_eq_nil_iff.mpr fun c hc hlt => hex ⟨c, hc, by simpa using hlt⟩
      rw [if_neg hex, hnil]
      exact head?_eq_some_iff_least sorted

/-- Settles O29. -/
theorem tagAndTargetAreChosenInTurn : Obligations.TagAndTargetAreChosenInTurn :=
  ⟨fun _ t h => nextTag_free h t, fun s h => ⟨fun _ => mem_candidates, nextTarget_eq_none_iff s, nextTarget_eq_some_iff h⟩⟩

/-! Keys -/

theorem ixStation_ix (k : Key) : ixStation (Key.ix k) = k.station.toNat := by
  have := k.channel.isLt
  simp only [ixStation, Key.ix, keyIx]
  omega

theorem ixChannel_ix (k : Key) : ixChannel (Key.ix k) = k.channel.toNat := by
  have := k.channel.isLt
  simp only [ixChannel, Key.ix, keyIx]
  omega

theorem mem_keysOf {station k : Nat} {channels : ChannelSet} :
    k ∈ keysOf station channels ↔ ixStation k = station ∧ setHas channels (ixChannel k) = true := by
  simp only [keysOf, setList, List.mem_map, List.mem_filter, List.mem_range, ixStation, ixChannel]
  constructor
  · rintro ⟨c, ⟨hc, hs⟩, rfl⟩
    have h1 : (station * 8 + c) % 8 = c := by omega
    exact ⟨by omega, by rwa [h1]⟩
  · rintro ⟨rfl, hs⟩
    exact ⟨k % 8, ⟨by omega, hs⟩, by omega⟩

/-- Settles O24: the requester is not told. -/
theorem freshnessExpiryMakesStale : Obligations.FreshnessExpiryMakesStale := by
  intro s k e hw hf ht hq
  refine ⟨s.table.adjust (Key.ix k) Entry.goStale, fun x => ?_, ?_⟩
  · rw [Map.find_adjust]
    split
    next hx => subst hx; rw [hf]; rfl
    · rfl
  · have due : (isDue e.timer && s.works) = true := by simp [isDue, ht, hw]
    have quiet : (e.pinned && ixStation (Key.ix k) != s.own.toNat && s.isActive) = false := by
      rw [ixStation_ix]
      rcases hq with h | h | h
      · simp [h]
      · simp [h]
      · have : s.isActive = false := by simpa [State.isActive] using h
        simp [this]
    simp only [exec, execFreshnessExpiry, freshnessExpiry, hf, due, if_true, quiet, Bool.false_eq_true, if_false]

/-! What the requester sends (R127) -/

theorem measureOf_eq (e : PendingEntry) : measureOf e = askFor e.tag e.channels := rfl

theorem quotaFree_requester (s : State) : quotaFree .requester s = decide (held .requester s.bus.queue = 0) := by
  simp [quotaFree, Producer.quota]

theorem sendDue_of_due {s : State} (ha : s.station.mode = .active) {l1 l2 : List PendingEntry} {e : PendingEntry}
    (hp : s.requester.pending = l1 ++ e :: l2) (he : e.stage = .due) (h1 : ∀ x ∈ l1, x.stage ≠ .due) (hq : held .requester s.bus.queue = 0) :
    sendDue s = withFrame { s with requester := { s.requester with pending := l1 ++ { e with stage := .queued } :: l2 } } e.target
      (askFor e.tag e.channels) := by
  have hd : isDueEntry e = true := by simp [isDueEntry, he]
  have hn : ∀ x ∈ l1, isDueEntry x = false := fun x hx => by simpa [isDueEntry] using h1 x hx
  simp only [sendDue, (isActive_iff s).mpr ha, quotaFree_requester, hq, decide_true, Bool.and_self, if_true, hp, find?_of_split l2 hn hd,
    updateFirst_of_split _ l2 hn hd]
  rfl

theorem sendDue_of_full {s : State} (hq : 1 ≤ held .requester s.bus.queue) : sendDue s = s := by
  have : ¬ held .requester s.bus.queue = 0 := by omega
  simp [sendDue, quotaFree_requester, this]

theorem pump_of_not_active {s : State} (h : s.station.mode ≠ .active) : pump s = s := by
  have : s.isActive = false := by simpa [State.isActive] using h
  simp [pump, issueOne, sendDue, this]

theorem pump_of_no_wanted {s : State} (h : s.requester.wanted = []) : pump s = sendDue s := by
  simp [pump, issueOne_of_no_wanted h]

/-- One wanted key of one station, with an empty pending table (R126). -/
theorem issueOne_of_one {s : State} (ha : s.station.mode = .active) {station : Addr} {channels : ChannelSet}
    (hw : s.requester.wanted = [(station.toNat, channels)]) (hc : channels ≠ 0) (hp : s.requester.pending = [])
    (hl : holdsLost s station.toNat = false) :
    issueOne s = { s with requester := { s.requester with
      wanted := []
      pending := [{ target := station, tag := s.requester.tag + 1, channels := channels, attempts := 1, stage := .due, duplicateUsed := false }]
      tag := s.requester.tag + 1, served := some station } } := by
  have only : candidates s = [station.toNat] := by
    have : ¬ channels = 0#8 := hc
    simp [candidates, hw, this, hp, hl]
  have target : nextTarget s = some station.toNat := by
    have wf : Map.wf s.requester.wanted := by simp [Map.wf, hw, Map.keys]
    rw [nextTarget_eq_some_iff wf, only]
    refine ⟨List.mem_singleton_self _, ?_⟩
    split
    · split_ifs <;> simp_all
    · simp
  simp only [issueOne, (isActive_iff s).mpr ha, hp, target, newEntry, hw, Map.erase, Map.find]
  simp [nextTag, pendingCapacity]

/-- One wanted key of one station, with nothing pending: its MEASURE is sent at once. -/
theorem pump_of_one {s : State} (ha : s.station.mode = .active) {station : Addr} {channels : ChannelSet}
    (hw : s.requester.wanted = [(station.toNat, channels)]) (hc : channels ≠ 0) (hp : s.requester.pending = [])
    (hl : holdsLost s station.toNat = false) (hq : held .requester s.bus.queue = 0) :
    pump s = withFrame { s with requester := { s.requester with
      wanted := []
      pending := [{ target := station, tag := s.requester.tag + 1, channels := channels, attempts := 1, stage := .queued, duplicateUsed := false }]
      tag := s.requester.tag + 1, served := some station } } station (askFor (s.requester.tag + 1) channels) := by
  let issued : State := { s with requester := { s.requester with
      wanted := []
      pending := [{ target := station, tag := s.requester.tag + 1, channels := channels, attempts := 1, stage := .due, duplicateUsed := false }]
      tag := s.requester.tag + 1, served := some station } }
  have h1 : issueOne s = issued := issueOne_of_one ha hw hc hp hl
  have h2 : issueOne issued = issued := issueOne_of_no_wanted rfl
  rw [pump, h1, h2, h2, h2]
  exact sendDue_of_due (s := issued) ha (l1 := []) rfl rfl (by simp) hq

/-- A key is taken where nothing else is asked for (R122). -/
theorem takeKey_of_nothing {s : State} {k : Key} (hl : holdsLost s k.station.toNat = false) (hw : s.requester.wanted = [])
    (hp : s.requester.pending = []) : takeKey s (Key.ix k) =
      { s with requester := { s.requester with wanted := [(k.station.toNat, BitVec.twoPow 8 k.channel.toNat)] } } := by
  simp [takeKey, wantKey, asksFor, ixStation_ix, ixChannel_ix, hl, hw, hp, Map.find, Map.set, setInsert]

theorem twoPow_ne_zero (c : Channel) : BitVec.twoPow 8 c.toNat ≠ 0 := by
  have : ∀ c : Channel, BitVec.twoPow 8 c.toNat ≠ 0 := by decide
  exact this c

/-- A key taken where nothing else is asked for is asked for at once. -/
theorem pump_takeKey {s : State} {k : Key} (ha : s.station.mode = .active) (hl : holdsLost s k.station.toNat = false)
    (hw : s.requester.wanted = []) (hp : s.requester.pending = []) (hq : held .requester s.bus.queue = 0) :
    pump (takeKey s (Key.ix k)) = withFrame { s with requester := { s.requester with
      pending := [{ target := k.station, tag := s.requester.tag + 1, channels := BitVec.twoPow 8 k.channel.toNat, attempts := 1,
                    stage := .queued, duplicateUsed := false }]
      tag := s.requester.tag + 1, served := some k.station } } k.station (askFor (s.requester.tag + 1) (BitVec.twoPow 8 k.channel.toNat)) := by
  rw [takeKey_of_nothing hl hw hp]
  refine (pump_of_one (s := { s with requester := { s.requester with wanted := [(k.station.toNat, BitVec.twoPow 8 k.channel.toNat)] } })
    ha rfl (twoPow_ne_zero k.channel) hp hl hq).trans ?_
  simp only [← hw]

/-- Settles O25. -/
theorem staleWatchedKeyIsRequested : Obligations.StaleWatchedKeyIsRequested := by
  intro s k ha hl hw hp hq tag one entry asking
  refine ⟨fun e hf ht hpin hown hoff => ?_, fun hoff => ?_⟩
  · refine ⟨s.table.adjust (Key.ix k) Entry.goStale, fun x => ?_, ?_⟩
    · rw [Map.find_adjust]
      split
      next hx => subst hx; rw [hf]; rfl
      · rfl
    · have due : (isDue e.timer && s.works) = true := by simp [isDue, ht, works_of_isActive ((isActive_iff s).mpr ha)]
      have told : (e.pinned && ixStation (Key.ix k) != s.own.toNat && s.isActive) = true := by
        have : k.station.toNat ≠ s.own.toNat := fun h => hown (BitVec.eq_of_toNat_eq h)
        simp [ixStation_ix, hpin, (isActive_iff s).mpr ha, this]
      simp only [exec, execFreshnessExpiry, freshnessExpiry, hf, due, if_true, told, staleNotice, hoff, Option.isSome_none, Bool.false_eq_true,
        if_false]
      exact congrArg Host.Outcome.next (pump_takeKey (s := { s with table := s.table.adjust (Key.ix k) Entry.goStale }) ha hl hw hp hq)
  · refine ⟨s.requester.holdOffs.erase (Key.ix k), fun x => Map.find_erase .., ?_⟩
    have due : (s.requester.holdOffs.find (Key.ix k) == some 0 && s.isActive) = true := by simp [hoff, (isActive_iff s).mpr ha]
    simp only [exec, execHoldOffExpiry, holdOffExpiry, due, if_true]
    exact congrArg Host.Outcome.next (pump_takeKey
      (s := { s with requester := { s.requester with holdOffs := s.requester.holdOffs.erase (Key.ix k) } }) ha hl hw hp hq)

/-! An entry's attempts (R130, R131) -/

section
variable {s : State} {l1 l2 : List PendingEntry} {e : PendingEntry}

theorem tags_of_awaits (h : Awaits s l1 e l2) : ∀ x ∈ l1 ++ l2, x.tag ≠ e.tag := by
  obtain ⟨hp, hn⟩ := h
  rw [hp, List.map_append, List.map_cons] at hn
  have := (List.nodup_cons.mp (List.perm_middle.nodup_iff.mp hn)).1
  rw [← List.map_append] at this
  exact fun x hx e => this (e ▸ List.mem_map_of_mem hx)

theorem entryOf_of_awaits (h : Awaits s l1 e l2) {p : Stage → Bool} (hp : p e.stage = true) : entryOf e.tag p s = some e := by
  rw [entryOf, h.1]
  refine find?_of_split l2 (fun x hx => ?_) (by simp [hp])
  simp [tags_of_awaits h x (List.mem_append_left _ hx)]

theorem removeEntry_of_awaits (h : Awaits s l1 e l2) :
    removeEntry e.tag s = { s with requester := { s.requester with pending := l1 ++ l2 } } := by
  have others : ∀ x ∈ l1 ++ l2, (x.tag != e.tag) = true := fun x hx => by simp [tags_of_awaits h x hx]
  have : s.requester.pending.filter (fun x => x.tag != e.tag) = l1 ++ l2 := by
    rw [h.1, List.filter_append, List.filter_cons, if_neg (by simp), ← List.filter_append, List.filter_eq_self.mpr others]
  rw [removeEntry, this]

/-- The state with an entry at its next attempt, behind the others (R131). -/
def retried (s : State) (others : List PendingEntry) (e : PendingEntry) (stage : Stage) : State :=
  { s with requester := { s.requester with
    pending := others ++ [{ e with attempts := e.attempts + 1, stage := stage, duplicateUsed := false }] } }

theorem nextAttempt_of_awaits (h : Awaits s l1 e l2) (ha : e.attempts < 3) : nextAttempt e s = retried s (l1 ++ l2) e .due := by
  have : ¬ maxAttempts ≤ e.attempts := by simp [maxAttempts, ha]
  rw [nextAttempt, if_neg this, removeEntry_of_awaits h]
  rfl

theorem mem_of_awaits (h : Awaits s l1 e l2) {x : PendingEntry} (hx : x ∈ l1 ++ l2) : x ∈ s.requester.pending := by
  rw [h.1]
  exact (List.mem_append.mp hx).elim (List.mem_append_left _) fun h => List.mem_append_right _ (List.mem_cons_of_mem _ h)

/-- Another attempt of an entry, where it is the only thing to do: with the quota free the MEASURE is sent. -/
theorem pump_nextAttempt_of_free (h : Awaits s l1 e l2) (quiet : RequesterQuiet s) (ha : e.attempts < 3) (hm : s.station.mode = .active)
    (hq : held .requester s.bus.queue = 0) :
    pump (nextAttempt e s) = withFrame (retried s (l1 ++ l2) e .queued) e.target (askFor e.tag e.channels) := by
  rw [nextAttempt_of_awaits h ha, pump_of_no_wanted (s := retried s (l1 ++ l2) e .due) quiet.1]
  exact sendDue_of_due (s := retried s (l1 ++ l2) e .due) hm (l1 := l1 ++ l2) (l2 := []) rfl rfl
    (fun x hx => quiet.2 x (mem_of_awaits h hx)) hq

/-- Another attempt of an entry that cannot be sent now. -/
theorem pump_nextAttempt_of_full (h : Awaits s l1 e l2) (quiet : RequesterQuiet s) (ha : e.attempts < 3)
    (hq : s.station.mode ≠ .active ∨ 1 ≤ held .requester s.bus.queue) :
    pump (nextAttempt e s) = retried s (l1 ++ l2) e .due := by
  rw [nextAttempt_of_awaits h ha]
  rcases hq with hm | hq
  · exact pump_of_not_active (s := retried s (l1 ++ l2) e .due) hm
  · rw [pump_of_no_wanted (s := retried s (l1 ++ l2) e .due) quiet.1]
    exact sendDue_of_full (s := retried s (l1 ++ l2) e .due) hq

/-- The reply timer of an entry that is SENT, or the back-off timer of one that is BACKING_OFF, has run down (R130, R131). -/
theorem exec_attemptTimer (h : Awaits s l1 e l2) {c : Instr}
    (hc : (c = .replyTimerExpiry e.tag ∧ e.stage = .sent 0) ∨ (c = .backOffExpiry e.tag ∧ e.stage = .backingOff 0)) :
    exec c s = .next (pump (nextAttempt e s)) := by
  have when_ {st : Stage} (hs : e.stage = st) : attemptWhen e.tag st s = pump (nextAttempt e s) := by
    rw [attemptWhen, entryOf_of_awaits h (by simp [hs])]
  rcases hc with ⟨rfl, hs⟩ | ⟨rfl, hs⟩ <;> exact congrArg Host.Outcome.next (when_ hs)

end

/-- Settles O26. -/
theorem attemptTimersRetry : Obligations.AttemptTimersRetry := by
  intro s l1 l2 e c hm quiet h ha hc again
  rw [exec_attemptTimer h hc]
  exact ⟨fun hq => congrArg Host.Outcome.next (pump_nextAttempt_of_free h quiet ha hm hq),
    fun hq => congrArg Host.Outcome.next (pump_nextAttempt_of_full h quiet ha (.inr hq))⟩

/-! Giving up at a station without watches (R132) -/

/-- The table with a key marked. -/
def markTable (t : Map Entry) (k : Nat) : Map Entry :=
  match t.find k with
  | some e => if e.unreachable then t else t.adjust k (fun e => { e with unreachable := true })
  | none => t

theorem find_markTable (t : Map Entry) (k x : Nat) :
    (markTable t k).find x = if x = k then (t.find x).map (fun e => { e with unreachable := true }) else t.find x := by
  unfold markTable
  split
  next e he =>
    split
    next hu =>
      split
      next hx =>
        subst hx
        rw [he, Option.map_some, ← hu]
      · rfl
    · exact Map.find_adjust ..
  next he =>
    split
    next hx =>
      subst hx
      rw [he]
      rfl
    · rfl

theorem markUnreachable_of_no_watches {s : State} (h : s.cfg.watches = []) (k : Nat) :
    markUnreachable s k = { s with table := markTable s.table k } := by
  rcases hf : s.table.find k with _ | e
  · simp only [markUnreachable, markTable, hf]
  · simp only [markUnreachable, markTable, hf]
    by_cases hu : e.unreachable = true
    · rw [if_pos hu, if_pos hu]
    · rw [if_neg hu, if_neg hu]
      refine unreachableNotice_of_none ?_ k
      exact h

theorem find_foldl_markTable (l : List Nat) (t : Map Entry) (x : Nat) :
    (l.foldl markTable t).find x = if x ∈ l then (t.find x).map (fun e => { e with unreachable := true }) else t.find x := by
  induction l generalizing t with
  | nil => simp
  | cons k l ih =>
    rw [List.foldl_cons, ih, find_markTable]
    by_cases h1 : x = k <;> by_cases h2 : x ∈ l <;> simp [h1, h2, Function.comp_def]

theorem foldl_markUnreachable_of_no_watches (s : State) (h : s.cfg.watches = []) (l : List Nat) (t : Map Entry) :
    l.foldl markUnreachable { s with table := t } = { s with table := l.foldl markTable t } := by
  induction l generalizing t with
  | nil => rfl
  | cons k l ih =>
    rw [List.foldl_cons, List.foldl_cons, markUnreachable_of_no_watches (s := { s with table := t }) h k]
    exact ih _

/-- The table after giving up on a station's keys. -/
def gaveUpTable (s : State) (station : Nat) (channels : ChannelSet) : Map Entry := (keysOf station channels).foldl markTable s.table

/-- The hold-offs after giving up on a station's keys. -/
def gaveUpHoldOffs (s : State) (station : Nat) (channels : ChannelSet) : Map Nat :=
  (keysOf station channels).foldl (fun h k => Map.set h k 5000) s.requester.holdOffs

theorem givenUp_gaveUp (s : State) (station : Addr) (channels : ChannelSet) :
    GivenUp s station channels (gaveUpTable s station.toNat channels) (gaveUpHoldOffs s station.toNat channels) :=
  ⟨fun k => by rw [gaveUpTable, find_foldl_markTable]; simp only [mem_keysOf],
    fun k => by rw [gaveUpHoldOffs, Map.find_foldl_set]; simp only [mem_keysOf]⟩

theorem giveUp_of_no_watches {s : State} (h : s.cfg.watches = []) (station : Nat) (channels : ChannelSet) :
    giveUp station channels s = { s with
      table := gaveUpTable s station channels
      requester := { s.requester with holdOffs := gaveUpHoldOffs s station channels } } := by
  simp only [giveUp]
  rw [foldl_markUnreachable_of_no_watches s h _ s.table]
  rfl

section
variable {s : State} {l1 l2 : List PendingEntry} {e : PendingEntry}

/-- The state after an entry has been given up. -/
def gaveUp (s : State) (e : PendingEntry) (rest : List PendingEntry) : State :=
  { s with
    table := gaveUpTable s e.target.toNat e.channels
    requester := { s.requester with holdOffs := gaveUpHoldOffs s e.target.toNat e.channels, pending := rest } }

theorem pump_giveUpEntry (h : Awaits s l1 e l2) (quiet : RequesterQuiet s) (hw : s.cfg.watches = []) :
    pump (giveUpEntry e s) = gaveUp s e (l1 ++ l2) := by
  have : giveUpEntry e s = gaveUp s e (l1 ++ l2) := by
    rw [giveUpEntry, removeEntry_of_awaits h]
    exact giveUp_of_no_watches (s := { s with requester := { s.requester with pending := l1 ++ l2 } }) hw _ _
  rw [this]
  exact pump_of_quiet ⟨quiet.1, fun x hx => quiet.2 x (mem_of_awaits h hx)⟩

end

/-- Settles O27. -/
theorem thirdAttemptGivesUp : Obligations.ThirdAttemptGivesUp := by
  intro s l1 l2 e c hw quiet h ha hc
  refine ⟨_, _, givenUp_gaveUp s e.target e.channels, ?_⟩
  have last : nextAttempt e s = giveUpEntry e s := if_pos ha.ge
  rw [exec_attemptTimer h hc, last, pump_giveUpEntry h quiet hw]
  rfl

/-! Refusals (R129) -/

theorem wellFormed_refuse {src dst : Addr} {kind : RefusedKind} {reason : BitVec 3} {tag : Tag} (hs : isStation src.toNat = true)
    (hd : isStation dst.toNat = true) : Frame.wellFormed { src := src, dst := dst, body := .refuse kind reason tag } = true := by
  simp [Frame.wellFormed, Body.lengthOk, Body.broadcast, Body.fieldsOk, hs, hd]

section
variable {s : State} {l1 l2 : List PendingEntry} {e : PendingEntry} {src : Addr} {reason : BitVec 3} {tag : Tag}

theorem takeRefuse_of_no_entry (h : ∀ x ∈ s.requester.pending, x.tag ≠ tag ∨ x.target ≠ src) : takeRefuse src .measure reason tag s = s := by
  have : s.requester.pending.find? (fun e => e.tag == tag && e.target == src) = none := by
    rw [List.find?_eq_none]
    intro x hx
    rcases h x hx with hne | hne <;> simp [hne]
  rw [takeRefuse, this]

theorem takeRefuse_of_awaits (h : Awaits s l1 e l2) : takeRefuse e.target .measure reason e.tag s = pump (takeRefusal e reason s) := by
  have : s.requester.pending.find? (fun x => x.tag == e.tag && x.target == e.target) = some e := by
    rw [h.1]
    refine find?_of_split l2 (fun x hx => ?_) (by simp)
    simp [tags_of_awaits h x (List.mem_append_left _ hx)]
  rw [takeRefuse, this]

theorem setEntry_of_awaits (h : Awaits s l1 e l2) (f : PendingEntry → PendingEntry) :
    setEntry e.tag f s = { s with requester := { s.requester with pending := l1 ++ f e :: l2 } } := by
  rw [setEntry, h.1, updateFirst_of_split f l2 (fun x hx => by simp [tags_of_awaits h x (List.mem_append_left _ hx)]) (by simp)]

/-- An entry that a refusal changes in place waits for no send. -/
theorem pump_setEntry (h : Awaits s l1 e l2) (quiet : RequesterQuiet s) {f : PendingEntry → PendingEntry} (hf : (f e).stage ≠ .due) :
    pump (setEntry e.tag f s) = { s with requester := { s.requester with pending := l1 ++ f e :: l2 } } := by
  rw [setEntry_of_awaits h]
  refine pump_of_quiet ⟨quiet.1, fun x hx => ?_⟩
  rcases List.mem_append.mp hx with hx | hx
  · exact quiet.2 x (mem_of_awaits h (List.mem_append_left _ hx))
  · rcases List.mem_cons.mp hx with rfl | hx
    · exact hf
    · exact quiet.2 x (mem_of_awaits h (List.mem_append_right _ hx))

/-- QUEUE_FULL and BUSY (R129). -/
theorem takeRefusal_of_backOff (hs : ∃ r, e.stage = .sent r) (hr : reason = 0 ∨ reason = 4) :
    takeRefusal e reason s = setEntry e.tag (fun e => { e with stage := .backingOff 50 }) s := by
  obtain ⟨r, hs⟩ := hs
  rcases hr with rfl | rfl <;> simp only [takeRefusal, hs] <;> rfl

/-- DUPLICATE, the first time (R129). -/
theorem takeRefusal_of_duplicate (hs : ∃ r, e.stage = .sent r) (hu : e.duplicateUsed = false) :
    takeRefusal e 1 s = setEntry e.tag (fun e => { e with stage := .sent s.cfg.reply, duplicateUsed := true }) s := by
  obtain ⟨r, hs⟩ := hs
  simp only [takeRefusal, hs, hu]
  rfl

/-- BAD_CHANNEL and BAD_REQUEST (R129). -/
theorem takeRefusal_of_bad (hr : reason = 2 ∨ reason = 3) : takeRefusal e reason s = giveUpEntry e s := by
  rcases hr with rfl | rfl <;> rfl

/-- The other refusals (R129). -/
theorem takeRefusal_of_other (h : (reason = 1 ∧ e.duplicateUsed = true) ∨ 5 ≤ reason.toNat ∨
    ((∀ r, e.stage ≠ .sent r) ∧ (reason = 0 ∨ reason = 1 ∨ reason = 4))) : takeRefusal e reason s = s := by
  have bad : reason.toNat ≠ 2 ∧ reason.toNat ≠ 3 := by
    rcases h with ⟨rfl, -⟩ | h | ⟨-, rfl | rfl | rfl⟩ <;> [decide; omega; decide; decide; decide]
  have sent (r : Nat) (hs : e.stage = .sent r) : (reason = 1 ∧ e.duplicateUsed = true) ∨ 5 ≤ reason.toNat :=
    h.imp_right fun h => h.resolve_right fun hn => hn.1 r hs
  unfold takeRefusal
  split
  next h2 => exact absurd h2 bad.1
  next h3 => exact absurd h3 bad.2
  next r h0 hs => rcases sent r hs with ⟨rfl, -⟩ | h5 <;> [exact absurd h0 (by decide); omega]
  next r h4 hs => rcases sent r hs with ⟨rfl, -⟩ | h5 <;> [exact absurd h4 (by decide); omega]
  next r h1 hs => rcases sent r hs with ⟨-, hu⟩ | h5 <;> [exact if_pos hu; omega]
  · rfl

end

/-- Settles O28. -/
theorem refusalsActByReason : Obligations.RefusalsActByReason := by
  intro s src reason tag h ho quiet hw heard c
  have hwf (kind : RefusedKind) := wellFormed_refuse (kind := kind) (reason := reason) (tag := tag) h.1.2.1 ho
  have acts {t : State} (ht : ∀ r n, takeRefuse src .measure reason tag { s with roster := r, draws := n } = { t with roster := r, draws := n })
      (time : t.time = s.time) : exec c s = .next { t with roster := heard.roster, draws := heard.draws } :=
    congrArg Host.Outcome.next (receive_plain h (hwf .measure) (.inr rfl) (by simp) (by simp) ht time)
  refine ⟨congrArg Host.Outcome.next (receive_plain (f := { src := src, dst := s.own, body := .refuse .query reason tag }) (t := s) h
    (hwf .query) (.inr rfl) (by simp) (by simp) (fun _ _ => rfl) rfl), fun hn => ?_, ?_⟩
  · exact acts (t := s) (fun r n => takeRefuse_of_no_entry (s := { s with roster := r, draws := n }) hn) rfl
  rintro l1 e l2 hA rfl rfl put
  have takes {f : State → State} {t : State} (hf : ∀ u, takeRefusal e reason u = f u)
      (ht : ∀ r n, pump (f { s with roster := r, draws := n }) = { t with roster := r, draws := n }) (time : t.time = s.time) :
      exec c s = .next { t with roster := heard.roster, draws := heard.draws } :=
    acts (fun r n => (takeRefuse_of_awaits (s := { s with roster := r, draws := n }) hA).trans ((congrArg pump (hf _)).trans (ht r n))) time
  have puts {f : PendingEntry → PendingEntry} (hf : ∀ u, takeRefusal e reason u = setEntry e.tag f u) (hd : (f e).stage ≠ .due) :
      exec c s = .next (put (f e)) :=
    takes (t := { s with requester := { s.requester with pending := l1 ++ f e :: l2 } }) hf
      (fun r n => pump_setEntry (s := { s with roster := r, draws := n }) hA quiet hd) rfl
  have stays (hf : ∀ u, takeRefusal e reason u = u) : exec c s = .next heard :=
    takes (t := s) hf (fun r n => pump_of_quiet (s := { s with roster := r, draws := n }) quiet) rfl
  refine ⟨fun r hs hr => puts (fun u => takeRefusal_of_backOff ⟨r, hs⟩ hr) (by simp), fun r hs hr hu => ?_, fun hr => ?_, fun hr => ?_,
    fun hs hr => ?_⟩
  · subst hr
    exact takes (t := { s with requester := { s.requester with pending := _ } }) (fun u => takeRefusal_of_duplicate ⟨r, hs⟩ hu)
      (fun r n => pump_setEntry (s := { s with roster := r, draws := n }) hA quiet (by simp)) rfl
  · exact ⟨_, _, givenUp_gaveUp s e.target e.channels, takes (t := gaveUp s e (l1 ++ l2)) (fun u => takeRefusal_of_bad hr)
      (fun r n => pump_giveUpEntry (s := { s with roster := r, draws := n }) hA quiet hw) rfl⟩
  · exact stays fun u => takeRefusal_of_other (hr.imp_right .inl)
  · exact stays fun u => takeRefusal_of_other (.inr (.inr ⟨hs, hr⟩))

end Sys2Proof.Machine
end
section
/-! The own PRESENCE (O39) and the frames on the line that start and return (O40, O41). -/

namespace Sys2Proof.Machine

open Sys2Proof.Safety

/-! The PRESENCE (R143, R144) -/

theorem causes_isEmpty_iff (c : Causes) : Causes.isEmpty c = true ↔ c = { threshold := false, sourceLost := false } := by
  rcases c with ⟨t, l⟩
  cases t <;> cases l <;> simp [Causes.isEmpty]

theorem formPresence_eq (s : State) : formPresence s = ownPresence s := by
  have active : s.isActive = decide (s.station.mode = .active) := Bool.eq_iff_iff.mpr (by simp [isActive_iff])
  have takes : (s.cfg.sweepSet != 0) = decide (s.cfg.sweepSet ≠ 0) := Bool.eq_iff_iff.mpr (by simp)
  have count : activeAlerts s = (s.alerts.queue.filter (fun r => r.causes.threshold || r.causes.sourceLost)).length := by
    simp [activeAlerts, Causes.isEmpty, Bool.not_and]
  rw [formPresence, active, takes, count]
  rfl

theorem isPresenceFrame_iff (q : QueuedFrame) : isPresenceFrame q = true ↔ Body.producer q.frame.body = some .roster := by
  simp [isPresenceFrame, QueuedFrame.isOf]

section
variable {s : State} {l1 l2 : List QueuedFrame} {q : QueuedFrame}

/-- The PRESENCE that waits is replaced in place (R144, R151). -/
theorem replacePresence_of_split (hs : s.bus.queue = l1 ++ q :: l2) (h1 : held .roster l1 = 0)
    (hp : Body.producer q.frame.body = some .roster) :
    replacePresence s = { s with bus := { s.bus with
      queue := l1 ++ { q with frame := { q.frame with body := .presence (ownPresence s) } } :: l2 } } := by
  rw [replacePresence, hs, updateFirst_of_split (p := isPresenceFrame) _ l2 (held_eq_zero_iff.mp h1) ((isPresenceFrame_iff q).mpr hp), formPresence_eq]

theorem placePresence_of_none (h : held .roster s.bus.queue = 0) : placePresence s = withFrame s 31 (.presence (ownPresence s)) := by
  have : s.bus.queue.find? isPresenceFrame = none := List.find?_eq_none.mpr fun x hx => by
    simpa [isPresenceFrame] using held_eq_zero_iff.mp h x hx
  rw [placePresence, this, formPresence_eq]
  rfl

theorem placePresence_of_split (hs : s.bus.queue = l1 ++ q :: l2) (h1 : held .roster l1 = 0)
    (hp : Body.producer q.frame.body = some .roster) :
    placePresence s = if q.onLine then { s with roster := { s.roster with due := true } } else replacePresence s := by
  have : s.bus.queue.find? isPresenceFrame = some q := by
    rw [hs]
    exact find?_of_split l2 (held_eq_zero_iff.mp h1) ((isPresenceFrame_iff q).mpr hp)
  rw [placePresence, this]

end

/-- Settles O39. -/
theorem presenceTimerSendsPresence : Obligations.PresenceTimerSendsPresence := by
  intro s hm hd restarted
  have due : (isDue s.roster.presence && (s.station.mode == .joining || s.isActive)) = true := by
    rcases hm with hm | hm <;> simp [isDue, hd, hm, State.isActive]
  have placed : exec .presenceTimerExpiry s = .next (placePresence restarted) := by
    simp only [exec, execPresenceTimerExpiry, presenceExpiry, due, if_true, restarted]
  rw [placed]
  refine ⟨fun h => ?_, fun l1 q l2 hs h1 hp => ⟨fun ho => ?_, fun ho => ?_⟩⟩
  · exact congrArg Host.Outcome.next (placePresence_of_none (s := restarted) h)
  · rw [placePresence_of_split (s := restarted) hs h1 hp, if_neg (by simp [ho])]
    exact congrArg Host.Outcome.next (replacePresence_of_split (s := restarted) hs h1 hp)
  · rw [placePresence_of_split (s := restarted) hs h1 hp, if_pos ho]

/-! The start of a frame (R150) -/

theorem lowestClass_le {l : List QueuedFrame} {x : QueuedFrame} (h : x ∈ l) : lowestClass l ≤ (Body.cls x.frame.body).toNat := by
  induction l with
  | nil => simp at h
  | cons a l ih =>
    rw [lowestClass]
    rcases List.mem_cons.mp h with rfl | h
    · exact Nat.min_le_left _ _
    · exact (Nat.min_le_right _ _).trans (ih h)

theorem le_lowestClass {l : List QueuedFrame} {n : Nat} (hn : n ≤ 3) (h : ∀ x ∈ l, n ≤ (Body.cls x.frame.body).toNat) : n ≤ lowestClass l := by
  induction l with
  | nil => exact hn
  | cons a l ih =>
    obtain ⟨ha, hl⟩ := List.forall_mem_cons.mp h
    exact Nat.le_min.mpr ⟨ha, ih hl⟩

/-- Settles O40. -/
theorem frameStartPicksLowestClass : Obligations.FrameStartPicksLowestClass := by
  refine fun s => ⟨fun h => ?_, fun h => ?_, fun l1 q l2 hm hf hs hl h1 h2 => ?_⟩
  · simp only [exec, execTxFrameStart, txStart, h, updateFirst]
    split
    · simp only [← h]
    · rfl
  · have : lineFree s = false := by simpa [lineFree] using h
    simp [exec, execTxFrameStart, txStart, this]
  · have least : ∀ x ∈ l1 ++ q :: l2, (Body.cls q.frame.body).toNat ≤ (Body.cls x.frame.body).toNat := by
      simp only [List.mem_append, List.mem_cons]
      rintro x (hx | rfl | hx)
      · exact (h1 x hx).le
      · exact le_rfl
      · exact h2 x hx
    have lowest : lowestClass s.bus.queue = (Body.cls q.frame.body).toNat := by
      rw [hs]
      exact le_antisymm (lowestClass_le (by simp)) (le_lowestClass (by have := (Body.cls q.frame.body).isLt; omega) least)
    have free : lineFree s = true := by
      have : s.bus.queue.filter QueuedFrame.onLine = [] := List.filter_eq_nil_iff.mpr fun x hx => by simp [hl x hx]
      simp [lineFree, onLineFrames, this, hf]
    have may : ((s.station.mode == .joining || s.isActive) && lineFree s) = true := by
      rcases hm with hm | hm <;> simp [free, hm, State.isActive]
    simp only [exec, execTxFrameStart, txStart, may, if_true]
    rw [hs] at lowest
    rw [hs, updateFirst_of_split _ l2 (fun x hx => ?_) (by simp [isNext, lowest])]
    have := h1 x hx
    simp only [isNext, lowest, beq_eq_false_iff_ne]
    omega

/-! Frames that return (R148, R153, R154, R156) -/

section
variable {s : State} {l1 l2 : List QueuedFrame} {q : QueuedFrame}

/-- The bus unit with a queue. -/
def withQueue (s : State) (l : List QueuedFrame) : State := { s with bus := { s.bus with queue := l } }

theorem returnFrame_of_onLine (h : OnLine s l1 q l2) (f : QueuedFrame → QueuedFrame) :
    returnFrame f s = withQueue s (l1 ++ { f q with onLine := false } :: l2) := by
  obtain ⟨hs, hq, h1⟩ := h
  rw [returnFrame, hs, updateFirst_of_split _ l2 h1 hq]
  rfl

theorem frameReturned_of_withdrawn (h : OnLine s l1 q l2) (hw : q.withdrawn = true) (f : QueuedFrame → QueuedFrame) :
    frameReturned q f s = withQueue s (l1 ++ l2) := by
  rw [frameReturned, if_pos hw, removeOnLine_of_onLine h]
  rfl

theorem frameReturned_of_plain (h : OnLine s l1 q l2) (hw : q.withdrawn = false)
    (hp : Body.producer q.frame.body ≠ some .roster ∨ s.roster.due = false) (f : QueuedFrame → QueuedFrame) :
    frameReturned q f s = withQueue s (l1 ++ { f q with onLine := false } :: l2) := by
  rw [frameReturned, if_neg (by simp [hw]), returnFrame_of_onLine h]
  split
  next hpf =>
    have due : s.roster.due = false := hp.resolve_left fun hn => hn ((isPresenceFrame_iff q).mp hpf)
    rw [presenceReturned, if_neg]
    simpa [withQueue] using due
  · rfl

theorem frameReturned_of_due (h : OnLine s l1 q l2) (hw : q.withdrawn = false) (hp : Body.producer q.frame.body = some .roster)
    (h1 : held .roster l1 = 0) (hd : s.roster.due = true) {f : QueuedFrame → QueuedFrame} (hf : (f q).frame = q.frame) :
    frameReturned q f s = { withQueue s (l1 ++ { f q with onLine := false, frame := { q.frame with body := .presence (ownPresence s) } } :: l2)
      with roster := { s.roster with due := false } } := by
  rw [frameReturned, if_neg (by simp [hw]), if_pos ((isPresenceFrame_iff q).mpr hp), returnFrame_of_onLine h, presenceReturned, if_pos]
  · refine (replacePresence_of_split (s := { withQueue s (l1 ++ { f q with onLine := false } :: l2) with roster := { s.roster with due := false } })
      (l1 := l1) (q := { f q with onLine := false }) (l2 := l2) rfl h1 (by rw [hf]; exact hp)).trans ?_
    rw [hf]
    rfl
  · exact hd

theorem arbitrationLoss_of_onLine (h : OnLine s l1 q l2) : exec .arbitrationLoss s = .next (frameReturned q id s) := by
  simp only [exec, execArbitrationLoss, arbitrationLoss, frameOnLine_of_onLine h]

/-- A transmit error short of 16 (R153, R154). -/
theorem transmitError_of_onLine (h : OnLine s l1 q l2) (he : s.bus.errors < 15) {t : State}
    (ht : erroredFrame q { s with bus := { s.bus with errors := s.bus.errors + 1 } } = t) (hte : t.bus.errors = s.bus.errors + 1) :
    exec .transmitError s = .next t := by
  have raised : raiseErrors s = { s with bus := { s.bus with errors := s.bus.errors + 1 } } := by
    have : min (s.bus.errors + 1) 16 = s.bus.errors + 1 := by omega
    simp only [raiseErrors, errorLimit, this]
  have quiet : ¬ errorLimit ≤ t.bus.errors := by simp only [errorLimit]; omega
  simp only [exec, execTransmitError, transmitError, frameOnLine_of_onLine h, raised, ht]
  simp [reportErrors, quiet]

theorem erroredFrame_of_withdrawn (h : OnLine s l1 q l2) (hw : q.withdrawn = true) : erroredFrame q s = withQueue s (l1 ++ l2) := by
  rw [erroredFrame, if_pos hw, removeOnLine_of_onLine h]
  rfl

theorem erroredFrame_of_few (hw : q.withdrawn = false) (ha : q.attempts < 3) :
    erroredFrame q s = frameReturned q (fun q => { q with attempts := q.attempts + 1 }) s := by
  have : ¬ attemptLimit ≤ q.attempts + 1 := by simp only [attemptLimit]; omega
  rw [erroredFrame, if_neg (by simp [hw]), if_neg this]

end

/-- Settles O41. -/
theorem framesReturnToTheirPlace : Obligations.FramesReturnToTheirPlace := by
  refine ⟨fun _ => rfl, ?_⟩
  intro s l1 l2 q h lost erred
  let raised : State := { s with bus := { s.bus with errors := s.bus.errors + 1 } }
  have hr : OnLine raised l1 q l2 := h
  refine ⟨fun hw => ⟨?_, fun he => ?_⟩, fun hw hp => ⟨?_, fun he ha => ?_⟩, ?_⟩
  · rw [arbitrationLoss_of_onLine h, frameReturned_of_withdrawn h hw]
    rfl
  · exact transmitError_of_onLine h he (erroredFrame_of_withdrawn hr hw) rfl
  · rw [arbitrationLoss_of_onLine h, frameReturned_of_plain h hw hp]
    rfl
  · exact transmitError_of_onLine h he ((erroredFrame_of_few hw ha).trans (frameReturned_of_plain hr hw hp _)) rfl
  · intro hw hp h1 hd fresh taken
    refine ⟨?_, fun he ha => ?_⟩
    · rw [arbitrationLoss_of_onLine h, frameReturned_of_due h hw hp h1 hd rfl]
      rfl
    · exact transmitError_of_onLine h he ((erroredFrame_of_few hw ha).trans (frameReturned_of_due hr hw hp h1 hd rfl)) rfl

end Sys2Proof.Machine
end
section
/-! The alert unit's announcements (O33), and what a producer does with the place of a frame that has ended (O42, O44). -/

namespace Sys2Proof.Machine

open Sys2Proof.Safety

/-! Announcing one record (R106, R107) -/

theorem alertOfRecord_eq (s : State) (r : AlertRecord) : alertOfRecord s.cfg r = recordAlert s r := by
  rcases r with ⟨w, q, ⟨t, l⟩, ack, ann, fr, ch, z, v⟩
  rcases t <;> rcases l <;> rcases v <;> rfl

theorem recordEligible_iff (r : AlertRecord) : recordEligible r = true ↔ r.announce = true ∧ r.frame = none := by
  simp [recordEligible, Option.isNone_iff_eq_none]

/-- A record that is announced already, or not to be announced (R107). -/
abbrev Framed (r : AlertRecord) : Prop := r.announce = true → r.frame.isSome = true

theorem recordEligible_eq_false {r : AlertRecord} (h : Framed r) : recordEligible r = false := by
  rw [Bool.eq_false_iff]
  intro e
  obtain ⟨ha, hf⟩ := (recordEligible_iff r).mp e
  simp [Framed, ha, hf] at h

/-- The state in which a record's ALERT has entered the transmit queue (R106, R107). -/
def announced (s : State) (m1 : List AlertRecord) (r : AlertRecord) (m2 : List AlertRecord) : State :=
  withFrame { s with alerts := { s.alerts with queue := m1 ++ { r with frame := some (recordAlert s r), changed := false } :: m2 } } 31
    (.alert (recordAlert s r))

/-- An ACTIVE station with a place of the ALERT quota and one item to announce, a record (R107). -/
theorem announce_of_one {s : State} (ha : s.station.mode = .active) (hq : held .alertUnit s.bus.queue < 2)
    (hf : ∀ f ∈ s.alerts.finals, f.frame.isSome = true) {m1 m2 : List AlertRecord} {r : AlertRecord} (hs : s.alerts.queue = m1 ++ r :: m2)
    (hr : r.announce = true) (hn : r.frame = none) (hm : ∀ x ∈ m1 ++ m2, Framed x) : announce s = announced s m1 r m2 := by
  have free : quotaFree .alertUnit s = true := by simpa [quotaFree, Producer.quota] using hq
  have finals : s.alerts.finals.find? finalEligible = none := List.find?_eq_none.mpr fun f hfm => by
    have := hf f hfm
    cases hff : f.frame <;> simp_all [finalEligible]
  have eligible := (recordEligible_iff r).mpr ⟨hr, hn⟩
  have before : ∀ x ∈ m1, recordEligible x = false := fun x hx => recordEligible_eq_false (hm x (List.mem_append_left _ hx))
  have first : announceOne s = announced s m1 r m2 := by
    simp only [announceOne, (isActive_iff s).mpr ha, free, Bool.and_self, if_true, finals]
    rw [hs, find?_of_split m2 before eligible]
    simp only [updateFirst_of_split _ m2 before eligible, alertOfRecord_eq]
    rfl
  rw [announce, first]
  refine announceOne_of_nothing ⟨fun x hx => ?_, hf⟩
  rcases List.mem_append.mp hx with hx | hx
  · exact hm x (List.mem_append_left _ hx)
  · rcases List.mem_cons.mp hx with rfl | hx
    · exact fun _ => rfl
    · exact hm x (List.mem_append_right _ hx)

/-- Settles O33. -/
theorem repeatAnnouncesUnacknowledged : Obligations.RepeatAnnouncesUnacknowledged := by
  intro s ha ht
  let marked : State := { s with alerts := { s.alerts with
    timer := some s.cfg.alertRepeat
    queue := s.alerts.queue.map (fun r => if r.acknowledged then r else { r with announce := true }) } }
  have due : (isDue s.alerts.timer && s.isActive) = true := by simp [isDue, ht, (isActive_iff s).mpr ha]
  have marks : (fun r : AlertRecord => if (!r.acknowledged) = true then { r with announce := true } else r) =
      fun r => if r.acknowledged then r else { r with announce := true } := by
    funext r
    cases r.acknowledged <;> rfl
  have run : exec .alertRepeatExpiry s = .next (announce marked) := by
    simp only [exec, execAlertRepeatExpiry, alertRepeat, due, if_true, markAnnounce, marks, marked]
  rw [run]
  refine ⟨fun hq => congrArg Host.Outcome.next (announce_of_full (s := marked) hq), ?_⟩
  intro r hs hf hu hn hq a
  exact congrArg Host.Outcome.next (announce_of_one (s := marked) (m1 := []) (r := { r with announce := true }) (m2 := []) ha hq
    (by simp [marked, hf]) (by simp [marked, hs, hu]) rfl hn (by simp))

/-! What each producer does at the end of one of its frames (R152, R153) -/

section
variable {s : State} {q : QueuedFrame} {completed : Bool}

theorem frameEnded_of_converter (h : Body.producer q.frame.body = some .converter) : frameEnded q completed s = releaseHold s := by
  unfold frameEnded
  split <;> simp_all [Body.producer]

theorem frameEnded_of_roster (h : Body.producer q.frame.body = some .roster) : frameEnded q completed s = presenceEnded s := by
  unfold frameEnded
  split <;> simp_all [Body.producer]

theorem frameEnded_of_refusalList (h : Body.producer q.frame.body = some .refusalList) : frameEnded q completed s = pumpRefusals s := by
  unfold frameEnded
  split <;> simp_all [Body.producer]

theorem frameEnded_of_queryService (h : Body.producer q.frame.body = some .queryService) : frameEnded q completed s = answer s := by
  unfold frameEnded
  split <;> simp_all [Body.producer]

theorem frameEnded_of_sweepUnit (h : Body.producer q.frame.body = some .sweepUnit) : frameEnded q false s = s := by
  unfold frameEnded
  split <;> simp_all [Body.producer]

end

section
variable {s : State}

/-- The held RESULT enters the transmit queue (R25). -/
theorem releaseHold_of_some {r : Finished} (hr : s.converter.hold = some r) (ha : s.station.mode = .active)
    (hq : held .converter s.bus.queue < 2) :
    releaseHold s = withFrame { s with converter := Converter.proceed { s.converter with hold := none } } 31 (.result r.cause r.items) := by
  have free : quotaFree .converter s = true := by simpa [quotaFree, Producer.quota] using hq
  simp only [releaseHold, hr, (isActive_iff s).mpr ha, free, Bool.and_self, if_true]
  rfl

theorem releaseHold_of_none (h : s.converter.hold = none) : releaseHold s = s := by simp only [releaseHold, h]

/-- A due PRESENCE enters the transmit queue (R144). -/
theorem presenceEnded_of_due (h : s.roster.due = true) :
    presenceEnded s = withFrame { s with roster := { s.roster with due := false } } 31 (.presence (ownPresence s)) := by
  rw [presenceEnded, if_pos h, formPresence_eq]
  rfl

theorem presenceEnded_of_not_due (h : s.roster.due = false) : presenceEnded s = s := by rw [presenceEnded, if_neg (by simp [h])]

/-- The next refusal becomes a frame (R157). -/
theorem pumpRefusals_of_some {r : RefusalItem} {rs : List RefusalItem} (hr : s.bus.refusals = r :: rs)
    (hq : held .refusalList s.bus.queue = 0) :
    pumpRefusals s = withFrame { s with bus := { s.bus with refusals := rs } } r.dst (.refuse r.kind r.reason r.tag) := by
  rw [pumpRefusals_eq, if_pos hq, hr]

theorem pumpRefusals_of_none (h : s.bus.refusals = []) : pumpRefusals s = s := by
  rw [pumpRefusals_eq, h, ite_self]

theorem answerOne_of_some {w : PendingQuery} {ws : List PendingQuery} (hs : s.queries = w :: ws) (ha : s.station.mode = .active)
    (hq : held .queryService s.bus.queue < 2) :
    answerOne s = withFrame { s with queries := ws } w.asker (replyOf { s with queries := ws } w.kind w.tag w.arg) := by
  have free : quotaFree .queryService s = true := by simpa [quotaFree, Producer.quota] using hq
  simp only [answerOne, (isActive_iff s).mpr ha, free, Bool.and_self, if_true, hs]
  rfl

theorem answerOne_of_none (h : s.queries = []) : answerOne s = s := by
  simp only [answerOne, h, ite_self]

theorem answerOne_of_full (h : 2 ≤ held .queryService s.bus.queue) : answerOne s = s := by
  simp [answerOne, quotaFree, Producer.quota, Nat.not_lt.mpr h]

theorem producer_replyOf (s : State) (kind : BitVec 3) (tag : Tag) (arg : QueryArg) :
    Body.producer (replyOf s kind tag arg) = some .queryService := by
  unfold replyOf
  split <;> rfl

/-- The next query is answered, and with it the REPLY quota is full (R177). -/
theorem answer_of_one_place {w : PendingQuery} {ws : List PendingQuery} (hs : s.queries = w :: ws) (ha : s.station.mode = .active)
    (hq : held .queryService s.bus.queue = 1) :
    answer s = withFrame { s with queries := ws } w.asker (replyOf { s with queries := ws } w.kind w.tag w.arg) := by
  rw [answer, answerOne_of_some hs ha (by omega)]
  refine answerOne_of_full ?_
  rw [← enqueue_eq_withFrame, held_enqueue, if_pos (producer_replyOf ..)]
  exact (congrArg (· + 1) hq).ge

theorem answer_of_none (h : s.queries = []) : answer s = s := by rw [answer, answerOne_of_none h, answerOne_of_none h]

end

/-- The end of a MEASURE by completion (R127). -/
theorem measureEnded_of_completed {s : State} {l1 l2 : List PendingEntry} {e : PendingEntry} (h : Awaits s l1 e l2) (quiet : RequesterQuiet s)
    (hs : e.stage = .queued) : measureEnded e.tag true s =
      { s with requester := { s.requester with pending := l1 ++ { e with stage := .sent s.cfg.reply } :: l2 } } := by
  simp only [measureEnded, entryOf_of_awaits h (p := fun st => st == .queued) (by simp [hs]), if_true]
  exact pump_setEntry h quiet (f := fun e => { e with stage := .sent s.cfg.reply }) (by simp)

/-- The end of a MEASURE by discard, taken as a reply timeout (R127). -/
theorem measureEnded_of_discarded {s : State} {l1 l2 : List PendingEntry} {e : PendingEntry} (h : Awaits s l1 e l2)
    (hs : e.stage = .queued) : measureEnded e.tag false s = pump (nextAttempt e s) := by
  simp only [measureEnded, entryOf_of_awaits h (p := fun st => st == .queued) (by simp [hs]), Bool.false_eq_true, if_false]

theorem map_eq_self {α : Type} {f : α → α} {l : List α} (h : ∀ x ∈ l, f x = x) : l.map f = l :=
  (List.map_congr_left h).trans (List.map_id' l)

/-- The end of a record's ALERT (R108): the frame is gone, and a record changed since is announced again. -/
theorem alertFrameEnded_of_record {s : State} {q : QueuedFrame} {a : Alert} (hb : q.frame.body = .alert a) (ho : q.orphan = false)
    (hf : ∀ f ∈ s.alerts.finals, f.watch ≠ a.watch.toNat) {m1 m2 : List AlertRecord} {r : AlertRecord} (hs : s.alerts.queue = m1 ++ r :: m2)
    (hr : r.watch = a.watch.toNat) (hm : ∀ x ∈ m1 ++ m2, x.watch ≠ a.watch.toNat) (completed : Bool) :
    alertFrameEnded q completed s = announce { s with alerts := { s.alerts with
      queue := m1 ++ { r with frame := none, announce := if completed then r.changed else r.announce } :: m2 } } := by
  have others {l : List AlertRecord} (hl : ∀ x ∈ l, x.watch ≠ a.watch.toNat) : l.map (fun r => if r.watch == a.watch.toNat then
      { r with frame := none, announce := if completed then r.changed else r.announce } else r) = l :=
    map_eq_self fun x hx => by simp [hl x hx]
  have finals : (s.alerts.finals.filter (fun f => !(completed && a.cleared && f.watch == a.watch.toNat))).map (fun f =>
      if f.watch == a.watch.toNat then { f with frame := none } else f) = s.alerts.finals := by
    rw [List.filter_eq_self.mpr fun f hfm => by simp [hf f hfm]]
    exact map_eq_self fun f hfm => by simp [hf f hfm]
  simp only [alertFrameEnded, hb, ho, Bool.false_eq_true, if_false, finals]
  rw [hs, List.map_append, List.map_cons, others fun x hx => hm x (List.mem_append_left _ hx),
    others fun x hx => hm x (List.mem_append_right _ hx), if_pos (by simp [hr])]

end Sys2Proof.Machine
end
section
/-! The consecutive-error count, which the bus unit alone changes (R152, R154). -/

namespace Sys2Proof.Machine

open Sys2Proof.Safety

theorem foldl_errors {α : Type} {f : State → α → State} (h : ∀ s x, (f s x).bus.errors = s.bus.errors) (l : List α) (s : State) :
    (l.foldl f s).bus.errors = s.bus.errors := by
  induction l generalizing s with
  | nil => rfl
  | cons x l ih => exact (ih _).trans (h s x)

/-! The alert unit and the watches -/

@[simp] theorem announceOne_errors (s : State) : (announceOne s).bus.errors = s.bus.errors := by
  unfold announceOne
  split
  · split
    · rfl
    · split <;> rfl
  · rfl

@[simp] theorem announce_errors (s : State) : (announce s).bus.errors = s.bus.errors := by simp [announce]

@[simp] theorem ownAssert_errors (w : Nat) (b : Bool) (s : State) : (ownAssert w b s).bus.errors = s.bus.errors := by
  unfold ownAssert
  split <;> rfl

@[simp] theorem ensureRecord_errors (w : Nat) (s : State) : (ensureRecord w s).bus.errors = s.bus.errors := by
  unfold ensureRecord dropFinal
  split
  · rfl
  · split <;> rfl

@[simp] theorem raiseAlert_errors (w : Nat) (cause : AlertCause) (zone : Zone) (x : Option Int) (s : State) :
    (raiseAlert w cause zone x s).bus.errors = s.bus.errors := by
  rw [raiseAlert_eq, announce_errors]
  split <;> simp [noteRaise]

@[simp] theorem deactivateAlert_errors (w : Nat) (cause : AlertCause) (zone : Zone) (x : Option Int) (s : State) :
    (deactivateAlert w cause zone x s).bus.errors = s.bus.errors := by
  unfold deactivateAlert
  split
  · rfl
  · split
    · dsimp only
      split
      · split <;> simp [removeRecord]
      · simp
    · rfl

@[simp] theorem alertFrameEnded_errors (q : QueuedFrame) (completed : Bool) (s : State) :
    (alertFrameEnded q completed s).bus.errors = s.bus.errors := by
  unfold alertFrameEnded
  split
  · split <;> simp
  · rfl

@[simp] theorem reportThreshold_errors (w : Nat) (c : WatchConfig) (old new : Zone) (x : Int) (s : State) :
    (reportThreshold w c old new x s).bus.errors = s.bus.errors := by
  unfold reportThreshold
  split
  · rfl
  · split <;> simp

@[simp] theorem evaluateWatch_errors (v : Map Entry → Nat → Option Int) (w : Nat) (s : State) : (evaluateWatch v w s).bus.errors = s.bus.errors := by
  unfold evaluateWatch evaluate
  split
  · split <;> simp [setRun]
  · rfl

@[simp] theorem closeNotice_errors (n : Count) (s : State) : (closeNotice n s).bus.errors = s.bus.errors :=
  foldl_errors (fun s w => evaluateWatch_errors _ w s) _ s

@[simp] theorem unreachableNotice_errors (k : Nat) (s : State) : (unreachableNotice k s).bus.errors = s.bus.errors := by
  refine foldl_errors (fun s w => ?_) _ s
  unfold unreachableAt
  split
  · split <;> simp
  · rfl

/-! The requester -/

@[simp] theorem giveUp_errors (station : Nat) (channels : ChannelSet) (s : State) : (giveUp station channels s).bus.errors = s.bus.errors := by
  refine foldl_errors (fun s k => ?_) _ s
  unfold markUnreachable
  split
  · split <;> simp
  · rfl

@[simp] theorem issueOne_errors (s : State) : (issueOne s).bus.errors = s.bus.errors := by
  unfold issueOne
  split
  · split <;> rfl
  · rfl

@[simp] theorem sendDue_errors (s : State) : (sendDue s).bus.errors = s.bus.errors := by
  unfold sendDue
  split
  · split <;> rfl
  · rfl

@[simp] theorem pump_errors (s : State) : (pump s).bus.errors = s.bus.errors := by simp [pump]

@[simp] theorem nextAttempt_errors (e : PendingEntry) (s : State) : (nextAttempt e s).bus.errors = s.bus.errors := by
  unfold nextAttempt giveUpEntry
  split <;> simp [removeEntry]

@[simp] theorem measureEnded_errors (tag : Tag) (completed : Bool) (s : State) : (measureEnded tag completed s).bus.errors = s.bus.errors := by
  unfold measureEnded
  split
  · split <;> simp [setEntry]
  · simp

/-! The sweep unit -/

@[simp] theorem closeTally_errors (t : Tally) (state : TallyState) (s : State) : (closeTally t state s).bus.errors = s.bus.errors := by
  simp [closeTally]

@[simp] theorem acceptSweep_errors (n : Count) (s : State) : (acceptSweep n s).bus.errors = s.bus.errors := by
  have offer (t : State) : (offerOwnSweep n t).bus.errors = t.bus.errors := by
    unfold offerOwnSweep offerSweep
    split
    · dsimp only
      split <;> rfl
    · rfl
  have opened (t : State) : (openNew n t).bus.errors = t.bus.errors := by
    simp only [openNew]
    split <;> simp
  have closed (t : State) : (supersede t).bus.errors = t.bus.errors := by
    unfold supersede
    split <;> simp
  rw [acceptSweep, offer, opened, closed]
  rfl

/-! The end of a frame -/

@[simp] theorem frameEnded_errors (q : QueuedFrame) (completed : Bool) (s : State) : (frameEnded q completed s).bus.errors = s.bus.errors := by
  have answered (t : State) : (answerOne t).bus.errors = t.bus.errors := by
    unfold answerOne
    split
    · split <;> rfl
    · rfl
  unfold frameEnded
  split
  · simp
  · split <;> simp
  · simp
  · unfold releaseHold
    split
    · split <;> rfl
    · rfl
  · rw [pumpRefusals_eq]
    split
    · split <;> rfl
    · rfl
  · rw [answer, answered, answered]
  · unfold presenceEnded
    split <;> rfl
  · rfl
  · rfl

end Sys2Proof.Machine
end
section
/-! SEND_COMPLETION and TRANSMIT_ERROR: the frame's place is freed (O42, O44), and 16 errors silence the station (O43). -/

namespace Sys2Proof.Machine

open Sys2Proof.Safety

section
variable {s : State} {l1 l2 : List QueuedFrame} {q : QueuedFrame}

/-! A frame carried whole (R152) -/

/-- The state after the frame on the line has been carried, before its producer is told. -/
def carried (s : State) (l : List QueuedFrame) : State := { s with bus := { s.bus with queue := l, errors := 0 } }

theorem sendCompletion_of_onLine (h : OnLine s l1 q l2) {t : State} (ht : frameEnded q true (carried s (l1 ++ l2)) = t) :
    exec .sendCompletion s = .next t := by
  simp only [exec, execSendCompletion, sendCompletion, frameOnLine_of_onLine h, removeOnLine_of_onLine h]
  exact congrArg Host.Outcome.next ht

/-- The tally that an acceptance opens carries its number (R50 step 5). -/
theorem acceptSweep_current (n : Count) (s : State) : ∃ c, (acceptSweep n s).sweeps.current = some c ∧ c.number = n := by
  have offer (t : State) : (offerOwnSweep n t).sweeps = t.sweeps := by
    unfold offerOwnSweep
    split <;> simp
  rw [acceptSweep, offer]
  simp only [openNew]
  split
  · rw [closeTally_sweeps]
    exact ⟨_, rfl, rfl⟩
  · exact ⟨_, rfl, rfl⟩

theorem frameEnded_of_sweep {n : Count} (hb : q.frame.body = .sweep n) :
    frameEnded q true s = if acceptable n s.sweeps.last then acceptSweep n s else s := by
  simp only [frameEnded, hb, Bool.true_and]

end

/-- Settles O44: each producer's use of the place, on the state in which the frame has left the queue. -/
theorem completedFrameFreesItsPlace : Obligations.CompletedFrameFreesItsPlace := by
  intro s l1 l2 q h sent
  have ends {t : State} (ht : frameEnded q true sent = t) : exec .sendCompletion s = .next t := sendCompletion_of_onLine h ht
  refine ⟨fun hp => ?_, fun hp => ?_, fun hp => ?_, fun hp => ?_, ?_, ?_, ?_⟩
  · have told := frameEnded_of_converter (s := sent) (completed := true) hp
    exact ⟨fun hn => ends (told.trans (releaseHold_of_none (s := sent) hn)),
      fun r hr ha hq => ends (told.trans (releaseHold_of_some (s := sent) hr ha hq))⟩
  · have told := frameEnded_of_roster (s := sent) (completed := true) hp
    exact ⟨fun hd => ends (told.trans (presenceEnded_of_not_due (s := sent) hd)),
      fun hd => ends (told.trans (presenceEnded_of_due (s := sent) hd))⟩
  · have told := frameEnded_of_refusalList (s := sent) (completed := true) hp
    exact ⟨fun hn => ends (told.trans (pumpRefusals_of_none (s := sent) hn)),
      fun r rs hr hq => ends (told.trans (pumpRefusals_of_some (s := sent) hr hq))⟩
  · have told := frameEnded_of_queryService (s := sent) (completed := true) hp
    exact ⟨fun hn => ends (told.trans (answer_of_none (s := sent) hn)),
      fun w ws hs ha hq => ends (told.trans (answer_of_one_place (s := sent) hs ha hq))⟩
  · rintro tag samples channels hb quiet m1 e m2 hA rfl hs
    have told : frameEnded q true sent = measureEnded e.tag true sent := by simp only [frameEnded, hb]
    exact ends (told.trans (measureEnded_of_completed (s := sent) hA quiet hs))
  · intro a hb ho quiet hf m1 r m2 hs hr hc hm
    have told : frameEnded q true sent = alertFrameEnded q true sent := by simp only [frameEnded, hb]
    refine ends (told.trans ((alertFrameEnded_of_record (s := sent) hb ho hf hs hr hm true).trans ?_))
    rw [if_pos rfl, hc]
    refine announce_of_nothing ⟨fun x hx => ?_, quiet.2⟩
    rcases List.mem_append.mp hx with hx | hx
    · exact quiet.1 x (hs ▸ List.mem_append_left _ hx)
    · rcases List.mem_cons.mp hx with rfl | hx
      · exact fun e => absurd e (by simp)
      · exact quiet.1 x (hs ▸ List.mem_append_right _ (List.mem_cons_of_mem _ hx))
  · intro n hb
    refine ⟨fun ha => ends ((frameEnded_of_sweep hb).trans (if_neg ?_)), fun ha => ?_⟩
    · simpa [sent] using ha
    · obtain ⟨c, hc, hn⟩ := acceptSweep_current n sent
      exact ⟨_, c, ends ((frameEnded_of_sweep hb).trans (if_pos ha)), acceptSweep_last n sent, hc, hn, acceptSweep_errors n sent⟩

/-! A frame discarded (R153) -/

section
variable {s : State} {l1 l2 : List QueuedFrame} {q : QueuedFrame}

/-- The state after the frame on the line has been discarded and the error counted, before the tx failures rise and the producer is told. -/
def dropped (s : State) (l : List QueuedFrame) : State := { s with bus := { s.bus with queue := l, errors := s.bus.errors + 1 } }

theorem erroredFrame_of_fourth (h : OnLine s l1 q l2) (hw : q.withdrawn = false) (ha : 3 ≤ q.attempts) :
    erroredFrame q s = discardFrame q (withQueue s (l1 ++ l2)) := by
  have : attemptLimit ≤ q.attempts + 1 := by simp only [attemptLimit]; omega
  rw [erroredFrame, if_neg (by simp [hw]), if_pos this, removeOnLine_of_onLine h]
  rfl

/-- What every order of the counter's rise and the producer's part gives (R180, log entry 29). -/
theorem transmitError_of_fourth (h : OnLine s l1 q l2) (hw : q.withdrawn = false) (ha : 3 ≤ q.attempts) (he : s.bus.errors < 15)
    {P : State → Prop}
    (first : P (frameEnded q false (bump .txFailures { dropped s (l1 ++ l2) with draws := s.draws + 1 })))
    (last : P (bump .txFailures (frameEnded q false { dropped s (l1 ++ l2) with draws := s.draws + 1 }))) :
    ∃ t, exec .transmitError s = .next t ∧ P t := by
  have hr : OnLine { s with bus := { s.bus with errors := s.bus.errors + 1 } } l1 q l2 := h
  have run := erroredFrame_of_fourth hr hw ha
  refine ⟨_, transmitError_of_onLine h he run ?_, ?_⟩
  · refine eitherFirst_induct (P := fun t => t.bus.errors = s.bus.errors + 1) ?_ ?_
    · exact frameEnded_errors ..
    · exact frameEnded_errors ..
  · exact eitherFirst_induct (P := P) first last

/-- A producer that does not look at the counters. -/
theorem transmitError_of_apart (h : OnLine s l1 q l2) (hw : q.withdrawn = false) (ha : 3 ≤ q.attempts) (he : s.bus.errors < 15)
    {f : Counters → State}
    (ht : ∀ k, frameEnded q false { dropped s (l1 ++ l2) with counters := k, draws := s.draws + 1 } = f k)
    (hf : bump .txFailures (f s.counters) = f (s.counters.bump .txFailures)) :
    exec .transmitError s = .next (f (s.counters.bump .txFailures)) := by
  obtain ⟨u, e, rfl⟩ := transmitError_of_fourth h hw ha he (P := fun u => u = f (s.counters.bump .txFailures)) (ht _)
    ((congrArg (bump .txFailures) (ht s.counters)).trans hf)
  exact e

end

/-- Settles O42. -/
theorem fourthErrorDiscards : Obligations.FourthErrorDiscards := by
  intro s l1 l2 q h hw ha he counted
  let gone (k : Counters) : State := { dropped s (l1 ++ l2) with counters := k, draws := s.draws + 1 }
  have apart {f : Counters → State} (ht : ∀ k, frameEnded q false (gone k) = f k)
      (hf : bump .txFailures (f s.counters) = f (s.counters.bump .txFailures)) :
      exec .transmitError s = .next (f (s.counters.bump .txFailures)) := transmitError_of_apart h hw ha he ht hf
  refine ⟨fun hp hh hr hq hd => ?_, fun hp hm hq r hr => ?_, fun hp hq r rs hr => ?_, fun hp hd => ?_, fun hp hm hq w ws hs => ?_, ?_, ?_⟩
  · refine apart (f := gone) (fun k => ?_) rfl
    simp only [List.mem_cons, List.not_mem_nil, or_false] at hp
    rcases hp with hp | hp | hp | hp | hp
    · exact frameEnded_of_sweepUnit hp
    · exact (frameEnded_of_converter hp).trans (releaseHold_of_none (s := gone k) hh)
    · exact (frameEnded_of_refusalList hp).trans (pumpRefusals_of_none (s := gone k) hr)
    · exact (frameEnded_of_queryService hp).trans (answer_of_none (s := gone k) hq)
    · exact (frameEnded_of_roster hp).trans (presenceEnded_of_not_due (s := gone k) hd)
  · have e := apart (fun k => (frameEnded_of_converter hp).trans (releaseHold_of_some (s := gone k) hr hm hq)) rfl
    exact e
  · have e := apart (fun k => (frameEnded_of_refusalList hp).trans (pumpRefusals_of_some (s := gone k) hr hq)) rfl
    exact e
  · have e := apart (fun k => (frameEnded_of_roster hp).trans (presenceEnded_of_due (s := gone k) hd)) rfl
    exact e
  · have answered (k : Counters) := (frameEnded_of_queryService (completed := false) hp).trans (answer_of_one_place (s := gone k) hs hm hq)
    obtain ⟨t, e, k, hk, ht⟩ := transmitError_of_fourth h hw ha he
      (P := fun t => ∃ k, (k = counted.counters ∨ k = s.counters) ∧
        t = withFrame { counted with queries := ws } w.asker (replyOf { counted with queries := ws, counters := k } w.kind w.tag w.arg))
      ⟨counted.counters, .inl rfl, answered _⟩ ⟨s.counters, .inr rfl, (congrArg (bump .txFailures) (answered s.counters)).trans rfl⟩
    exact ⟨k, hk, ht ▸ e⟩
  · intro a hb ho hm hq hf m1 r m2 hs hr hann hothers
    have told (k : Counters) : frameEnded q false (gone k) = announced (gone k) m1 { r with frame := none } m2 := by
      have e : frameEnded q false (gone k) = alertFrameEnded q false (gone k) := by simp only [frameEnded, hb]
      rw [e, alertFrameEnded_of_record (s := gone k) hb ho (fun f hfm => (hf f hfm).1) hs hr (fun x hx => (hothers x hx).1)]
      exact announce_of_one (s := { gone k with alerts := { s.alerts with queue := m1 ++ { r with frame := none } :: m2 } })
        (r := { r with frame := none }) hm hq (fun f hfm => (hf f hfm).2) rfl hann rfl fun x hx => (hothers x hx).2
    have e := apart told rfl
    exact e
  · rintro tag samples channels hb quiet m1 e m2 hA rfl hs
    have told (k : Counters) : frameEnded q false (gone k) = pump (nextAttempt e (gone k)) := by
      have e : frameEnded q false (gone k) = measureEnded e.tag false (gone k) := by simp only [frameEnded, hb]
      exact e.trans (measureEnded_of_discarded (s := gone k) hA hs)
    refine ⟨fun hm hq hfew => ?_, fun hthird hnw => ⟨_, _, givenUp_gaveUp s e.target e.channels, ?_⟩⟩
    · have e := apart (fun k => (told k).trans (pump_nextAttempt_of_free (s := gone k) hA quiet hfew hm hq)) rfl
      exact e
    · have last (k : Counters) : nextAttempt e (gone k) = giveUpEntry e (gone k) := if_pos hthird.ge
      have e := apart (fun k => (told k).trans ((congrArg pump (last k)).trans (pump_giveUpEntry (s := gone k) hA quiet hnw))) rfl
      exact e

/-! Sixteen errors in a row (R154, R171) -/

/-- What the producer of a discarded frame leaves as it was. -/
theorem frameEnded_discarded_frame (q : QueuedFrame) (s : State) :
    (frameEnded q false s).station = s.station ∧ (frameEnded q false s).time = s.time ∧ (frameEnded q false s).trigger = s.trigger ∧
    (frameEnded q false s).cadence = s.cadence ∧ (frameEnded q false s).sweeps = s.sweeps ∧
    (frameEnded q false s).roster.peers = s.roster.peers ∧ (frameEnded q false s).pending = s.pending := by
  unfold frameEnded
  split
  case h_7 =>
    unfold presenceEnded
    split <;> simp
  all_goals simp

/-- The fields that a frame's part of a transmit error leaves as they were. -/
structure SameButQueue (s t : State) : Prop where
  station : t.station = s.station
  time : t.time = s.time
  trigger : t.trigger = s.trigger
  cadence : t.cadence = s.cadence
  sweeps : t.sweeps = s.sweeps
  peers : t.roster.peers = s.roster.peers
  pending : t.pending = s.pending
  errors : t.bus.errors = s.bus.errors

theorem frameEnded_discarded_same (q : QueuedFrame) (s : State) : SameButQueue s (frameEnded q false s) := by
  obtain ⟨h1, h2, h3, h4, h5, h6, h7⟩ := frameEnded_discarded_frame q s
  exact ⟨h1, h2, h3, h4, h5, h6, h7, frameEnded_errors ..⟩

theorem discardFrame_same (q : QueuedFrame) (s : State) : SameButQueue s (discardFrame q s) := by
  have first := frameEnded_discarded_same q (bump .txFailures { s with draws := s.draws + 1 })
  have last := frameEnded_discarded_same q { s with draws := s.draws + 1 }
  refine eitherFirst_induct (P := SameButQueue s) ?_ ?_
  · exact ⟨first.station, first.time, first.trigger, first.cadence, first.sweeps, first.peers, first.pending, first.errors⟩
  · exact ⟨last.station, last.time, last.trigger, last.cadence, last.sweeps, last.peers, last.pending, last.errors⟩

theorem frameReturned_same (q : QueuedFrame) (f : QueuedFrame → QueuedFrame) (s : State) : SameButQueue s (frameReturned q f s) := by
  unfold frameReturned presenceReturned
  split
  · exact ⟨rfl, rfl, rfl, rfl, rfl, rfl, rfl, rfl⟩
  · split
    · split <;> exact ⟨rfl, rfl, rfl, rfl, rfl, rfl, rfl, rfl⟩
    · exact ⟨rfl, rfl, rfl, rfl, rfl, rfl, rfl, rfl⟩

theorem erroredFrame_same (q : QueuedFrame) (s : State) : SameButQueue s (erroredFrame q s) := by
  unfold erroredFrame
  split
  · exact ⟨rfl, rfl, rfl, rfl, rfl, rfl, rfl, rfl⟩
  · split
    · obtain ⟨h1, h2, h3, h4, h5, h6, h7, h8⟩ := discardFrame_same q (removeOnLine s)
      exact ⟨h1, h2, h3, h4, h5, h6, h7, h8⟩
    · exact frameReturned_same ..

/-- What every block does on leaving ACTIVE (R170). -/
theorem leftActive_leaveActive (s : State) : LeftActive (leaveActive s) := by
  have h := leaveActive_unserved s
  obtain ⟨⟨hp, hs, hh⟩, -⟩ := h
  refine ⟨hp, hs, hh, ?_⟩
  rw [leaveActive_eq]
  exact ⟨rfl, rfl, rfl, rfl, rfl, rfl, rfl, rfl, rfl, rfl, rfl⟩

/-- Settles O43. -/
theorem sixteenthErrorSilences : Obligations.SixteenthErrorSilences := by
  intro s l1 l2 q h ha he
  have same := erroredFrame_same q (raiseErrors s)
  have full : (erroredFrame q (raiseErrors s)).bus.errors = 16 := by
    rw [same.errors]
    have : min (s.bus.errors + 1) 16 = 16 := by omega
    exact this
  have active : (erroredFrame q (raiseErrors s)).station.mode = .active := by rw [same.station]; exact ha
  have run : exec .transmitError s = .next (enterSilenced .errors 2000 (erroredFrame q (raiseErrors s))) := by
    have limit : (decide (errorLimit ≤ (erroredFrame q (raiseErrors s)).bus.errors) && (erroredFrame q (raiseErrors s)).isActive) = true := by
      simp [full, errorLimit, (isActive_iff _).mpr active]
    simp only [exec, execTransmitError, transmitError, frameOnLine_of_onLine h, reportErrors, limit, if_true, silenceMs]
  obtain ⟨h1, h2, h3, h4, h5, h6, h7, h8, h9, h10, h11, h12, h13, -⟩ := leftActive_leaveActive (erroredFrame q (raiseErrors s))
  refine ⟨_, run, ?_⟩
  rw [enterSilenced_of_active active]
  refine ⟨congrArg (fun st : Station => { st with mode := .silenced, release := some 2000, releaseReason := some .errors, clearing := none })
    same.station, ⟨h1, h2, h3, h4, h5, h6, h7, h8, h9, h10, h11, h12, h13, rfl⟩, ?_⟩
  rw [leaveActive_eq]
  exact ⟨full, congrArg (fun u : SweepUnit => { u with call := none }) same.sweeps, same.time, same.trigger, same.cadence, same.peers,
    same.pending⟩

end Sys2Proof.Machine
end
section
/-! The timers that move the station (O47) and address conflicts (O45). -/

namespace Sys2Proof.Machine

open Sys2Proof.Safety

theorem takeNotices_nil {s : State} (h : RequesterQuiet s) (take : State → Nat → State) : takeNotices take [] s = { s with draws := s.draws + 1 } := by
  have same : pump { s with draws := s.draws + 1 } = { s with draws := s.draws + 1 } := pump_of_quiet h
  refine settle_induct (P := fun t => t = { s with draws := s.draws + 1 }) same ?_
  simpa using same

/-- With every watched key of other stations FRESH there is no stale announcement (R73). -/
theorem announceStale_of_fresh {s : State} (quiet : RequesterQuiet s)
    (h : ∀ p ∈ s.table, p.2.pinned = true → ixStation p.1 ≠ s.own.toNat → p.2.state = .fresh) :
    announceStale s = { s with draws := s.draws + 1 } := by
  have none' : watchedRemote (fun _ e => e.state != .fresh) s = [] := by
    have : s.table.filter (fun q => q.2.pinned && ixStation q.1 != s.own.toNat && q.2.state != .fresh) = [] := by
      rw [List.filter_eq_nil_iff]
      intro p hp
      simp only [Bool.and_eq_true, bne_iff_ne, ne_eq]
      exact fun ⟨⟨hpin, hown⟩, hf⟩ => hf (h p hp hpin hown)
    rw [watchedRemote, this]
    rfl
  rw [announceStale, none', takeNotices_nil quiet]

/-- Settles O47. -/
theorem lifeTimersMoveTheStation : Obligations.LifeTimersMoveTheStation := by
  refine ⟨fun s hm hj quiet hr hf => ?_, ?_, fun s hm hd => ?_⟩
  · have due : (isDue s.station.joinWait && s.station.mode == .joining) = true := by simp [isDue, hj, hm]
    have entered : enterActive s = { activated s with draws := s.draws + 2 } := by
      rw [enterActive_eq]
      have stale (n : Nat) : announceStale { activated s with draws := n } = { activated s with draws := n + 1 } :=
        announceStale_of_fresh (s := { activated s with draws := n }) hr hf
      have told (n : Nat) : announce { activated s with draws := n } = { activated s with draws := n } :=
        announce_of_nothing (s := { activated s with draws := n }) quiet
      refine eitherFirst_induct (P := fun t => t = { activated s with draws := s.draws + 2 }) ?_ ?_
      · exact (congrArg announce (stale _)).trans (told _)
      · exact (congrArg announceStale (told _)).trans (stale _)
    simp only [exec, execJoinWaitExpiry, joinWaitExpiry, due, if_true, entered]
    rfl
  · intro s hm hd hq joined
    have due : (isDue s.station.release && s.station.mode == .silenced) = true := by simp [isDue, hd, hm]
    simp only [exec, execReleaseTimerExpiry, releaseExpiry, due, if_true, enterJoining_eq]
    refine congrArg Host.Outcome.next (placePresence_of_none (s := joining s) ?_)
    change held .roster s.bus.queue = 0
    rw [hq]
    rfl
  · have due : (isDue s.station.clearing && s.isActive) = true := by simp [isDue, hd, (isActive_iff s).mpr hm]
    simp only [exec, execConflictClearingExpiry, clearingExpiry, due, if_true]

/-! Address conflicts (R172) -/

/-- The state but for its queue and the due PRESENCE. -/
def requeued (s : State) (l : List QueuedFrame) (due : Bool) : State :=
  { s with bus := { s.bus with queue := l }, roster := { s.roster with due := due } }

theorem frameReturned_eq_requeued (q : QueuedFrame) (f : QueuedFrame → QueuedFrame) (s : State) :
    ∃ l due, frameReturned q f s = requeued s l due := by
  unfold frameReturned presenceReturned
  split
  · exact ⟨_, _, rfl⟩
  · split
    · split <;> exact ⟨_, _, rfl⟩
    · exact ⟨_, _, rfl⟩

/-- A valid frame that carries the own address as its source (R172). -/
theorem receive_of_own {s : State} {f : Frame} (hr : receives s = true) (hw : Wins s (Frame.key f)) (hf : Frame.wellFormed f = true)
    (works : s.works = true) (own : f.src = s.own) : receive f s = addressConflict s := by
  have wins : winsLine (Frame.key f) s = true := List.all_eq_true.mpr fun q hq => decide_eq_true (hw q hq)
  simp [receive, hears, hr, wins, hf, works, own]

theorem receives_of_works {s : State} (h : s.works = true) : receives s = true := by
  unfold State.works at h
  unfold receives
  split at h <;> simp_all

/-- An address conflict short of the third (R172). -/
theorem addressConflict_of_few {s : State} (hm : s.station.mode = .joining ∨ s.station.mode = .active) (hc : s.station.conflicts < 2) :
    addressConflict s = enterSilenced .conflict (s.own.toNat * 20)
      { s with station := { s.station with conflicts := s.station.conflicts + 1 } } := by
  have may : (s.station.mode == .joining || s.isActive) = true := by rcases hm with hm | hm <;> simp [hm, State.isActive]
  have few : ¬ conflictLimit ≤ s.station.conflicts + 1 := by simp only [conflictLimit]; omega
  simp only [addressConflict, may, if_true, few, if_false]

/-- The third address conflict (R172). -/
theorem addressConflict_of_third {s : State} (hm : s.station.mode = .joining ∨ s.station.mode = .active) (hc : 2 ≤ s.station.conflicts) :
    addressConflict s = eitherFirst (leave s.isActive) (enterFault .addressConflict)
      (toMode .fault { s with station := { s.station with conflicts := s.station.conflicts + 1 } }) := by
  have may : (s.station.mode == .joining || s.isActive) = true := by rcases hm with hm | hm <;> simp [hm, State.isActive]
  have third : conflictLimit ≤ s.station.conflicts + 1 := by simp only [conflictLimit]; omega
  simp only [addressConflict, may, if_true, third]

theorem addressConflict_of_idle {s : State} (h1 : s.station.mode ≠ .joining) (h2 : s.station.mode ≠ .active) : addressConflict s = s := by
  simp [addressConflict, h1, State.isActive, h2]

theorem leftActive_enterSilenced {s : State} (ha : s.station.mode = .active) (reason : ReleaseReason) (ms : Nat) :
    LeftActive (enterSilenced reason ms s) := by
  obtain ⟨h1, h2, h3, h4, h5, h6, h7, h8, h9, h10, h11, h12, h13, -⟩ := leftActive_leaveActive s
  rw [enterSilenced_of_active ha]
  exact ⟨h1, h2, h3, h4, h5, h6, h7, h8, h9, h10, h11, h12, h13, rfl⟩

theorem eitherFirst_cases (f g : State → State) (s : State) :
    eitherFirst f g s = g (f { s with draws := s.draws + 1 }) ∨ eitherFirst f g s = f (g { s with draws := s.draws + 1 }) :=
  eitherFirst_induct (P := fun t => t = _ ∨ t = _) (.inl rfl) (.inr rfl)

/-- Settles O45. -/
theorem addressConflictSilencesOrFaults : Obligations.AddressConflictSilencesOrFaults := by
  intro s l1 l2 q n c hc
  have given (hw : s.works = true) (hs : c = .rxSweep s.own 31 n) : exec c s = .next (addressConflict s) := by
    rcases hc with ⟨rfl, -⟩ | ⟨-, ho, hwins⟩
    · exact absurd hs (by simp)
    · rw [hs]
      exact congrArg Host.Outcome.next (receive_of_own (receives_of_works hw) hwins (wellFormed_sweep ho) hw rfl)
  have run (hm : s.station.mode = .joining ∨ s.station.mode = .active) : ∃ l due, exec c s = .next (addressConflict (requeued s l due)) := by
    have works : s.works = true := by rcases hm with hm | hm <;> simp [State.works, hm]
    rcases hc with ⟨rfl, h⟩ | ⟨hs, -⟩
    · obtain ⟨l, due, e⟩ := frameReturned_eq_requeued q id s
      refine ⟨l, due, ?_⟩
      simp only [exec, execKeyFieldConflict, keyFieldConflict, frameOnLine_of_onLine h, e]
    · exact ⟨s.bus.queue, s.roster.due, given works hs⟩
  refine ⟨fun hm hfew => ?_, fun hm hthird => ?_, fun hm hs => ?_⟩
  · obtain ⟨l, due, e⟩ := run hm
    let v : State := { requeued s l due with station := { s.station with conflicts := s.station.conflicts + 1 } }
    have silenced : exec c s = .next (enterSilenced .conflict (s.own.toNat * 20) v) :=
      e.trans (congrArg Host.Outcome.next (addressConflict_of_few (s := requeued s l due) hm hfew))
    refine ⟨_, silenced, ?_⟩
    rcases hm with hm | hm
    · rw [enterSilenced_of_joining (s := v) hm, leaveJoining_eq]
      exact ⟨rfl, rfl, rfl, rfl, rfl, rfl, rfl, rfl, rfl, fun ha => absurd ha (by simp [hm]), rfl, rfl, rfl, rfl, rfl, rfl, rfl, rfl⟩
    · have left := leftActive_enterSilenced (s := v) hm .conflict (s.own.toNat * 20)
      rw [enterSilenced_of_active (s := v) hm] at left ⊢
      rw [leaveActive_eq] at left ⊢
      exact ⟨rfl, rfl, rfl, rfl, rfl, rfl, rfl, rfl, rfl, fun _ => left, rfl, rfl, rfl, rfl, rfl, rfl, rfl, rfl⟩
  · obtain ⟨l, due, e⟩ := run hm
    let v : State := toMode .fault { requeued s l due with station := { s.station with conflicts := s.station.conflicts + 1 } }
    have faulted : exec c s = .next (eitherFirst (leave s.isActive) (enterFault .addressConflict) v) :=
      e.trans (congrArg Host.Outcome.next (addressConflict_of_third (s := requeued s l due) hm hthird))
    refine ⟨_, faulted, ?_⟩
    rcases hm with hm | hm
    · have from_ : leave s.isActive = leaveJoining := by simp [State.isActive, hm, leave]
      rw [from_]
      rcases eitherFirst_cases leaveJoining (enterFault .addressConflict) v with h | h <;> rw [h]
      · rw [leaveJoining_eq]
        exact ⟨rfl, rfl, rfl, rfl, rfl, rfl, rfl, rfl, rfl, rfl, rfl, rfl, rfl, rfl, rfl, rfl, .inl rfl⟩
      · rw [leaveJoining_eq]
        exact ⟨rfl, rfl, rfl, rfl, rfl, rfl, rfl, rfl, rfl, rfl, rfl, rfl, rfl, rfl, rfl, rfl, .inl rfl⟩
    · have from_ : leave s.isActive = leaveActive := by simp [State.isActive, hm, leave]
      rw [from_]
      rcases eitherFirst_cases leaveActive (enterFault .addressConflict) v with h | h <;> rw [h]
      · rw [leaveActive_eq]
        exact ⟨rfl, rfl, rfl, rfl, rfl, rfl, rfl, rfl, rfl, rfl, rfl, rfl, rfl, rfl, rfl, rfl, .inr ⟨hm, rfl⟩⟩
      · rw [leaveActive_eq]
        exact ⟨rfl, rfl, rfl, rfl, rfl, rfl, rfl, rfl, rfl, rfl, rfl, rfl, rfl, rfl, rfl, rfl, .inl rfl⟩
  · rw [given (by simp [State.works, hm]) hs, addressConflict_of_idle (by simp [hm]) (by simp [hm])]

end Sys2Proof.Machine
end
section
/-! Received ALERT (O34) and ACK (O35) frames, and queries refused (O49). -/

namespace Sys2Proof.Machine

open Sys2Proof.Safety

/-! Groups (R114, R115, R117) -/

theorem recompute_eq (g : Group) (m : Map WatchSet) : Group.recompute { g with asserters := m } =
    { g with asserters := m, active := decide (g.quorum ≠ 0 ∧ g.quorum ≤ m.length) } := by
  have : (g.quorum != 0 && decide (g.quorum ≤ m.length)) = decide (g.quorum ≠ 0 ∧ g.quorum ≤ m.length) := Bool.eq_iff_iff.mpr (by simp)
  rw [Group.recompute, this]

/-- A change of the asserter map of a group that there is (R117). -/
theorem changeGroup_of_group {s : State} {g : Nat} {gr : Group} (h : s.alerts.groups[g]? = some gr) (f : Map WatchSet → Map WatchSet) :
    changeGroup g f s =
      let m := f gr.asserters
      let groups := s.alerts.groups.set g { gr with asserters := m, active := decide (gr.quorum ≠ 0 ∧ gr.quorum ≤ m.length) }
      { s with alerts := { s.alerts with
        groups := groups
        ala := groups.any (fun g => g.active && g.lineA)
        alb := groups.any (fun g => g.active && g.lineB) } } := by
  simp only [changeGroup, updateAt_eq_set _ _ _ _ h, recompute_eq]
  rfl

/-- A station's set in an asserter map after a watch has joined it, or left it. -/
def changedSet (joins : Bool) (before : WatchSet) (w : Nat) : WatchSet :=
  if joins then before ||| BitVec.twoPow 16 w else before &&& ~~~ BitVec.twoPow 16 w

theorem or_twoPow_ne_zero (before : WatchSet) {w : Nat} (hw : w < 16) : before ||| BitVec.twoPow 16 w ≠ 0 := by
  intro h
  have := congrArg (fun x => x.getLsbD w) h
  simp [hw] at this

/-- A station with an empty set is in no map (R113, R114, R115). -/
theorem find_assertOrDeny (joins : Bool) (station : Nat) {w : Nat} (hw : w < 16) (m : Map WatchSet) (x : Nat) :
    ((if joins then assertIn else denyIn) station w m).find x =
      if x = station then
        (if changedSet joins ((m.find station).getD 0) w = 0 then none else some (changedSet joins ((m.find station).getD 0) w))
      else m.find x := by
  rcases joins with _ | _
  · show (denyIn station w m).find x = _
    rcases hf : m.find station with _ | ws
    · have e : changedSet false 0 w = 0 := by simp [changedSet]
      simp only [denyIn, hf, Option.getD_none, e, if_true]
      split
      next hx => exact hx ▸ hf
      next => rfl
    · have e : changedSet false ws w = setErase ws w := rfl
      simp only [denyIn, hf, Option.getD_some, e]
      by_cases hz : setErase ws w = 0
      · rw [if_pos hz, if_pos hz, Map.find_erase]
      · rw [if_neg hz, if_neg hz, Map.find_set]
  · simp only [if_true, assertIn, changedSet, if_neg (or_twoPow_ne_zero _ hw), Map.find_set, setInsert]

theorem wellFormed_alert {src : Addr} {a : Alert} (hs : isStation src.toNat = true) (hv : signedWordOk a.value = true) :
    Frame.wellFormed { src := src, dst := 31, body := .alert a } = true := by
  simp [Frame.wellFormed, Body.lengthOk, Body.broadcast, Body.fieldsOk, hs, hv, allStations]

/-- Settles O34. -/
theorem receivedAlertFeedsGroup : Obligations.ReceivedAlertFeedsGroup := by
  intro s src a h hv heard
  have hw := wellFormed_alert h.1.2.1 hv
  have takes {t : State} (ht : ∀ r n, takeAlert src a { s with roster := r, draws := n } = { t with roster := r, draws := n })
      (time : t.time = s.time) : exec (.rxAlert src 31 a) s = .next { t with roster := heard.roster, draws := heard.draws } :=
    congrArg Host.Outcome.next (receive_plain h hw (.inl rfl) (by simp) (by simp) ht time)
  refine ⟨fun hn => takes (t := s) (fun r n => by rw [takeAlert, hn]) rfl, ?_⟩
  intro g gr hg hgr before after
  have change : (if a.cleared then denyIn else assertIn) = (if !a.cleared then assertIn else denyIn) := by cases a.cleared <;> rfl
  have set : after = changedSet (!a.cleared) before a.watch.toNat := by
    simp only [after, changedSet]
    cases a.cleared <;> rfl
  let m := (if !a.cleared then assertIn else denyIn) src.toNat a.watch.toNat gr.asserters
  refine ⟨m, fun x => ?_, ?_⟩
  · rw [set]
    exact find_assertOrDeny _ _ a.watch.isLt _ _
  · intro groups
    refine takes (t := { s with alerts := { s.alerts with groups := groups, ala := _, alb := _ } }) (fun r n => ?_) rfl
    rw [takeAlert, hg, change]
    exact changeGroup_of_group (s := { s with roster := r, draws := n }) hgr _

/-! ACK (R111) -/

theorem takeAck_of_none {s : State} {q : Count} (h : ∀ r ∈ s.alerts.queue, r.sequence ≠ q) : takeAck q s = bump .unmatchedAcks s := by
  have : s.alerts.queue.find? (fun r => r.sequence == q) = none := List.find?_eq_none.mpr fun r hr => by simp [h r hr]
  rw [takeAck, this]

section
variable {s : State} {l1 l2 : List AlertRecord} {r : AlertRecord}

/-- An ACK for a record with active causes (R111). -/
theorem takeAck_of_active (quiet : NothingToAnnounce s) (hs : s.alerts.queue = l1 ++ r :: l2)
    (h1 : ∀ x ∈ l1, x.sequence ≠ r.sequence) (hc : r.causes ≠ { threshold := false, sourceLost := false }) :
    takeAck r.sequence s = { s with alerts := { s.alerts with queue := l1 ++ { r with acknowledged := true } :: l2 } } := by
  have before : ∀ x ∈ l1, (x.sequence == r.sequence) = false := fun x hx => by simp [h1 x hx]
  have active : ¬ Causes.isEmpty r.causes = true := fun e => hc ((causes_isEmpty_iff _).mp e)
  rw [takeAck, hs, find?_of_split l2 before (by simp)]
  simp only [active]
  rw [updateFirst_of_split _ l2 before (by simp)]
  refine announce_of_nothing ⟨fun x hx => ?_, quiet.2⟩
  rcases List.mem_append.mp hx with hx | hx
  · exact quiet.1 x (hs ▸ List.mem_append_left _ hx)
  · rcases List.mem_cons.mp hx with rfl | hx
    · exact quiet.1 r (hs ▸ List.mem_append_right _ List.mem_cons_self)
    · exact quiet.1 x (hs ▸ List.mem_append_right _ (List.mem_cons_of_mem _ hx))

theorem finalOf_of_framed (h : Framed r) : finalOf r =
    if r.frame.isSome then [{ watch := r.watch, sequence := r.sequence, zone := r.zone, value := r.value, frame := r.frame }] else [] := by
  have : (r.announce || r.frame.isSome) = r.frame.isSome := by
    rcases ha : r.announce with _ | _
    · rfl
    · simp [h ha]
  rw [finalOf, this]

/-- An ACK for a record with no active cause (R105, R111). -/
theorem takeAck_of_cleared (quiet : NothingToAnnounce s) (hs : s.alerts.queue = l1 ++ r :: l2)
    (h1 : ∀ x ∈ l1, x.sequence ≠ r.sequence ∧ x.watch ≠ r.watch) (hc : r.causes = { threshold := false, sourceLost := false }) :
    takeAck r.sequence s = { s with alerts := { s.alerts with
      queue := l1 ++ l2
      finals := s.alerts.finals ++
        (if r.frame.isSome then [{ watch := r.watch, sequence := r.sequence, zone := r.zone, value := r.value, frame := r.frame }] else []) } } := by
  have before : ∀ x ∈ l1, (x.sequence == r.sequence) = false := fun x hx => by simp [(h1 x hx).1]
  have watches : ∀ x ∈ l1, (x.watch == r.watch) = false := fun x hx => by simp [(h1 x hx).2]
  have framed : Framed r := quiet.1 r (hs ▸ List.mem_append_right _ List.mem_cons_self)
  rw [takeAck, hs, find?_of_split l2 before (by simp)]
  simp only [(causes_isEmpty_iff _).mpr hc, if_true, removeRecord, finalOf_of_framed framed]
  rw [hs, removeFirst_of_split l2 watches (by simp)]
  refine announce_of_nothing ⟨fun x hx => quiet.1 x ?_, fun f hf => ?_⟩
  · rw [hs]
    exact (List.mem_append.mp hx).elim (List.mem_append_left _) fun h => List.mem_append_right _ (List.mem_cons_of_mem _ h)
  · rcases List.mem_append.mp hf with hf | hf
    · exact quiet.2 f hf
    · split at hf
      next hfr => rw [List.mem_singleton.mp hf]; exact hfr
      · simp at hf

end

theorem wellFormed_ack {src dst : Addr} {q : Count} (hs : isStation src.toNat = true) (hd : isStation dst.toNat = true) :
    Frame.wellFormed { src := src, dst := dst, body := .ack q } = true := by
  simp [Frame.wellFormed, Body.lengthOk, Body.broadcast, Body.fieldsOk, hs, hd]

/-- Settles O35. -/
theorem ackActsOnItsRecord : Obligations.AckActsOnItsRecord := by
  intro s src q h ho quiet heard
  have takes {t : State} (ht : ∀ r n, takeAck q { s with roster := r, draws := n } = { t with roster := r, draws := n })
      (time : t.time = s.time) : exec (.rxAck src s.own q) s = .next { t with roster := heard.roster, draws := heard.draws } :=
    congrArg Host.Outcome.next (receive_plain h (wellFormed_ack h.1.2.1 ho) (.inr rfl) (by simp) (by simp) ht time)
  refine ⟨fun hn => takes (t := bump .unmatchedAcks s) (fun r n => takeAck_of_none (s := { s with roster := r, draws := n }) hn) rfl, ?_⟩
  rintro l1 r l2 hs rfl h1
  refine ⟨fun hc => ?_, fun hc => ?_⟩
  · exact takes (t := { s with alerts := { s.alerts with queue := _ } })
      (fun ro n => takeAck_of_active (s := { s with roster := ro, draws := n }) quiet hs (fun x hx => (h1 x hx).1) hc) rfl
  · exact takes (t := { s with alerts := { s.alerts with queue := _, finals := _ } })
      (fun ro n => takeAck_of_cleared (s := { s with roster := ro, draws := n }) quiet hs h1 hc) rfl

end Sys2Proof.Machine
end
section
/-! Questions: which are refused, and what the others are answered (R175 to R179). -/

namespace Sys2Proof.Machine
open Sys2Proof.Safety

/-! Which argument suits (Table 11-1) -/

theorem kind_cases : ∀ kind : BitVec 3, kind = 0 ∨ kind = 1 ∨ kind = 2 ∨ kind = 3 ∨ kind = 4 ∨ kind = 5 ∨ kind = 6 ∨ kind = 7 := by
  decide

section
variable {s : State} {src : Addr} {kind : BitVec 3} {tag : Tag} {arg : QueryArg}

theorem takeQuery_of_unsuitable (ha : s.station.mode = .active) (h : argSuits kind arg = false) :
    takeQuery src kind tag arg s = handedOver s src .query 3 tag := by
  have active : s.isActive = true := by simpa [State.isActive] using ha
  rw [takeQuery, if_pos active, if_pos (by simp [h]), refuse_eq_handedOver]
  rfl

theorem takeQuery_of_busy (ha : s.station.mode = .active) (h : argSuits kind arg = true) (hq : 2 ≤ s.queries.length) :
    takeQuery src kind tag arg s = handedOver s src .query 4 tag := by
  have active : s.isActive = true := by simpa [State.isActive] using ha
  rw [takeQuery, if_pos active, if_neg (by simp [h]), if_pos (show queryCapacity ≤ _ from hq), refuse_eq_handedOver]
  rfl

/-- A refused query reaches the roster and the refusal list alone. -/
theorem exec_query_of_refused {reason : BitVec 3} (h : FromPeer s src (.query kind tag arg)) (ho : isStation s.own.toNat = true)
    (refused : ∀ r n, takeQuery src kind tag arg { s with roster := r, draws := n } =
      handedOver { s with roster := r, draws := n } src .query reason tag) :
    exec (queryCommand kind src s.own tag arg) s = .next (handedOver (heardFrom s src (knownInfo s src)) src .query reason tag) := by
  rw [queryCommand_eq]
  refine congrArg Host.Outcome.next ((receive_plain h (wellFormed_query h.1.2.1 ho) (.inr rfl) (by simp) (by simp)
    (t := handedOver s src .query reason tag) (fun r n => ?_) (handedOver_time ..)).trans (handedOver_roster ..).symm)
  exact (refused r n).trans (handedOver_roster ..)

end

/-- Settles O49. -/
theorem unsuitableQueriesAreRefused : Obligations.UnsuitableQueriesAreRefused := by
  refine ⟨fun kind arg => ?_, ?_⟩
  · rcases kind_cases kind with rfl | rfl | rfl | rfl | rfl | rfl | rfl | rfl
    all_goals rcases arg with _ | a | ⟨a, c⟩
    all_goals simp [argSuits, isStation, and_assoc]
  · intro s src kind tag arg h ha ho heard
    exact ⟨fun hs => exec_query_of_refused h ho fun r n => takeQuery_of_unsuitable (s := { s with roster := r, draws := n }) ha hs,
      fun hs hq => exec_query_of_refused h ho fun r n => takeQuery_of_busy (s := { s with roster := r, draws := n }) ha hs hq⟩

/-! Questions answered at once (R177) -/

/-- The content of a reply does not hang on the roster, but for a ROSTER reply, which holds one slot of it. -/
theorem replyContent_roster (kind : BitVec 3) (arg : QueryArg) (s : State) (r : Roster) (n : Nat)
    (h : kind ≠ 6 ∨ rosterContent (argNumber arg) { s with roster := r, draws := n } = rosterContent (argNumber arg) s) :
    replyContent kind arg { s with roster := r, draws := n } = replyContent kind arg s := by
  rcases kind_cases kind with rfl | rfl | rfl | rfl | rfl | rfl | rfl | rfl
  case inr.inr.inr.inr.inr.inr.inl => exact congrArg some (h.resolve_left (by simp))
  all_goals rcases arg with _ | a | ⟨a, c⟩
  all_goals rfl

/-- Hearing a peer changes the slot of that peer alone. -/
theorem rosterContent_heardFrom {s : State} {src : Addr} {info : Option Presence} {a n : Nat} (h : a ≠ src.toNat) :
    rosterContent a { s with roster := (heardFrom s src info).roster, draws := n } = rosterContent a s := by
  simp only [rosterContent, heardFrom, Map.find_set, if_neg h]
  rfl

section
variable {s : State} {src : Addr} {kind : BitVec 3} {tag : Tag} {arg : QueryArg}

theorem takeQuery_of_answered (ha : s.station.mode = .active) (hq : s.queries = []) (hh : held .queryService s.bus.queue < 2)
    (h : argSuits kind arg = true) : takeQuery src kind tag arg s = withFrame s src (replyOf s kind tag arg) := by
  have active : s.isActive = true := by simpa [State.isActive] using ha
  have same : ({ s with queries := [] } : State) = s := by rw [← hq]
  rw [takeQuery, if_pos active, if_neg (by simp [h]), if_neg (by simp [hq, queryCapacity]), answer, hq, List.nil_append,
    answerOne_of_some (s := { s with queries := _ }) rfl ha hh, answerOne_of_none rfl]
  exact congrArg (fun t => withFrame t src (replyOf t kind tag arg)) same

theorem argNumber_ne (hs : argSuits 6 arg = true) (h : arg ≠ .one (src.setWidth 8)) : argNumber arg ≠ src.toNat := by
  rcases arg with _ | a | ⟨a, c⟩
  · simp [argSuits] at hs
  · intro e
    refine h (congrArg QueryArg.one (BitVec.eq_of_toNat_eq ?_))
    have := src.isLt
    rw [BitVec.toNat_setWidth, Nat.mod_eq_of_lt (by omega)]
    exact e
  · simp [argSuits] at hs

theorem exec_query_of_answered (h : FromPeer s src (.query kind tag arg)) (ha : s.station.mode = .active)
    (ho : isStation s.own.toNat = true) (hq : s.queries = []) (hh : held .queryService s.bus.queue < 2)
    (suits : argSuits kind arg = true) (other : kind = 6 → arg ≠ .one (src.setWidth 8)) :
    exec (queryCommand kind src s.own tag arg) s =
      .next (withFrame (heardFrom s src (knownInfo s src)) src (replyOf s kind tag arg)) := by
  have taken (r : Roster) (n : Nat)
      (same : kind ≠ 6 ∨ rosterContent (argNumber arg) { s with roster := r, draws := n } = rosterContent (argNumber arg) s) :
      takeQuery src kind tag arg { s with roster := r, draws := n } =
        withFrame { s with roster := r, draws := n } src (replyOf s kind tag arg) := by
    refine (takeQuery_of_answered (s := { s with roster := r, draws := n }) ha hq hh suits).trans ?_
    unfold replyOf
    rw [replyContent_roster _ _ _ _ _ same]
  have hears (t : State) (hr : t.roster = s.roster) (ht : t.time = s.time) :=
    hear_of_plain (s := s) (t := t) (body := .query kind tag arg) h.2 (by simp) hr ht
  rw [queryCommand_eq, receive_of_reaches h.1 (wellFormed_query h.1.2.1 ho) (.inr rfl), dispatchRequester_eq_id (by simp)]
  refine congrArg Host.Outcome.next (anyOrder_id_induct (P := fun u => u = _) rfl ?_ ?_)
  · rw [hears { s with draws := s.draws + 1 } rfl rfl]
    refine taken _ _ ?_
    by_cases hk : kind = 6
    · exact .inr (rosterContent_heardFrom (argNumber_ne (hk ▸ suits) (other hk)))
    · exact .inl hk
  · have last : takeQuery src kind tag arg { s with draws := s.draws + 1 } = _ := taken s.roster _ (.inr rfl)
    show hear src (.query kind tag arg) (takeQuery src kind tag arg { s with draws := s.draws + 1 }) = _
    rw [last, hears (withFrame { s with draws := s.draws + 1 } src (replyOf s kind tag arg)) rfl rfl]
    rfl

end

/-! The bytes of the answers (Table 12-3) -/

section
variable {m n : Nat}

theorem toNat_append_add (x : BitVec m) (y : BitVec n) : (x ++ y).toNat = x.toNat * 2 ^ n + y.toNat := by
  rw [BitVec.toNat_append, ← Nat.shiftLeft_add_eq_or_of_lt y.isLt, Nat.shiftLeft_eq]

theorem toNat_bit (b : Bool) : (bit b).toNat = one (b = true) := by cases b <;> rfl

theorem toNat_zoneCode (z : Zone) : (zoneCode z).toNat = zoneNo z := by cases z <;> rfl

theorem one_le (p : Prop) [Decidable p] : one p ≤ 1 := by
  unfold one
  split
  · exact Nat.le_refl 1
  · exact Nat.zero_le 1

theorem one_congr {p q : Prop} [Decidable p] [Decidable q] (h : p ↔ q) : one p = one q := by
  simp only [one, h]

theorem zoneNo_le (z : Zone) : zoneNo z ≤ 3 := by cases z <;> decide

theorem toNat_b8 (n : Nat) : (b8 n).toNat = n % 256 := BitVec.toNat_ofNat n 8

theorem hiByte_eq (x : BitVec 16) : hiByte x = b8 (x.toNat / 256) := by
  apply BitVec.eq_of_toNat_eq
  rw [hiByte, toNat_b8, BitVec.extractLsb'_toNat, Nat.shiftRight_eq_div_pow]

theorem loByte_eq (x : BitVec 16) : loByte x = b8 x.toNat := by
  apply BitVec.eq_of_toNat_eq
  rw [loByte, toNat_b8, BitVec.extractLsb'_toNat, Nat.shiftRight_zero]

theorem wordBytes_eq (x : BitVec 16) : wordBytes x = b16 x.toNat := by rw [wordBytes, hiByte_eq, loByte_eq, b16]

theorem longBytes_eq (x : BitVec 32) : longBytes x = b32 x.toNat := by
  have byte (k : Nat) : x.extractLsb' k 8 = b8 (x.toNat / 2 ^ k) := by
    apply BitVec.eq_of_toNat_eq
    rw [toNat_b8, BitVec.extractLsb'_toNat, Nat.shiftRight_eq_div_pow]
  rw [longBytes, byte, byte, byte, byte, b32]
  norm_num

theorem flag_eq (b : Bool) : flag b = one (b = true) := rfl

theorem wordBytes_signedWord (x : Option Int) : wordBytes (signedWord x) = b16i x := by
  rcases x with _ | x
  · rfl
  · exact wordBytes_eq _

theorem wordBytes_valueWord (v : Value) (q : Quality) : wordBytes (valueWord v q) = valueBytes v q := by
  rw [wordBytes_eq, valueBytes]
  refine congrArg b16 ?_
  simp only [valueWord, Quality.bits, toNat_append_add, toNat_bit, BitVec.toNat_ofNat]
  omega

theorem causeBytes_eq (c : Cause) : causeBytes c = causeTriple c := by
  rcases c with n | ⟨r, t⟩ | n | n
  case measure => rfl
  all_goals exact congrArg (_ :: ·) (wordBytes_eq n)

theorem wordBytes_ageWord (now stamp : Time) : wordBytes (ageWord now stamp) = b16 (min (now - stamp).toNat 65535) := by
  rw [wordBytes_eq, ageWord, BitVec.toNat_ofNat, Nat.mod_eq_of_lt (by omega)]
  rfl

theorem alertByte0_eq (w : Nat) (g : Option (BitVec 3)) :
    alertByte0 (BitVec.ofNat 4 w) g = b8 (w % 16 + 16 * (g.getD 0).toNat + 128 * one (g.isSome)) := by
  apply BitVec.eq_of_toNat_eq
  have := one_le (g.isSome = true)
  have := (g.getD 0).isLt
  simp only [alertByte0, toNat_append_add, toNat_bit, BitVec.toNat_ofNat, toNat_b8]
  omega

theorem recordByte1_eq (a t l n : Bool) (level : BitVec 2) (z : Zone) :
    bit a ++ alertMiddle t l level z ++ bit n =
      b8 (128 * one (a = true) + 64 * one (t = true) + 32 * one (l = true) + 8 * level.toNat + 2 * zoneNo z + one (n = true)) := by
  apply BitVec.eq_of_toNat_eq
  have := one_le (a = true)
  have := one_le (t = true)
  have := one_le (l = true)
  have := one_le (n = true)
  have := zoneNo_le z
  have := level.isLt
  simp only [alertMiddle, toNat_append_add, toNat_bit, toNat_zoneCode, toNat_b8]
  omega

theorem presenceBytes_eq (p : Presence) : presenceBytes p = presencePayload p := by
  have byte0 : presenceByte0 p =
      b8 (128 * one p.active + 64 * one p.participation + 32 * one (p.lastSweep.isSome) + p.period.toNat) := by
    apply BitVec.eq_of_toNat_eq
    have := one_le (p.active = true)
    have := one_le (p.participation = true)
    have := one_le (p.lastSweep.isSome = true)
    have := p.period.isLt
    simp only [presenceByte0, toNat_append_add, toNat_bit, BitVec.toNat_ofNat, toNat_b8]
    omega
  rw [presenceBytes, presencePayload, byte0, wordBytes_eq, wordBytes_eq]

end

theorem Map.isSome_find_iff {α : Type} (m : Map α) (k : Nat) : (m.find k).isSome = true ↔ k ∈ m.keys := by
  induction m with
  | nil => simp [Map.find, Map.keys]
  | cons p m ih =>
    obtain ⟨j, v⟩ := p
    by_cases h : j = k
    · simp [Map.find, Map.keys, h]
    · simp only [Map.keys] at ih
      simp [Map.find, Map.keys, h, ih, Ne.symm h]

theorem statusPart0_eq (s : State) : statusPart0 s = status0 s := by
  have state : converterCode s.converter.state =
      if s.converter.hold.isSome then 3 else if s.converter.suspended.isSome then 2 else if s.converter.running.isSome then 1 else 0 := by
    unfold Converter.state
    split_ifs <;> rfl
  have cause : flag (s.station.startCause == .line) = one (s.station.startCause = .line) := by
    rw [flag_eq]
    exact one_congr beq_iff_eq
  simp only [statusPart0, status0, state, cause, placesByte, wordBytes_eq, flag_eq]
  congr 1
  · rcases s.station.mode <;> rcases s.station.lastFault with _ | (_ | _ | _ | _) <;> rfl

theorem statusContent_eq (part : Nat) (s : State) : statusContent part s = if part = 0 then status0 s else status12 part s := by
  simp only [statusContent, statusPart0_eq, status12, Counters.first, Counters.second, funext wordBytes_eq]
  rfl

theorem entryContent_eq (s : State) (k : Nat) (e : Entry) : byteOf k :: entryContent s.time e = valueReply s k e := by
  have state : freshnessCode e.state = match e.state with | .empty => 0 | .fresh => 1 | .stale => 2 := by
    cases e.state <;> rfl
  simp only [entryContent, valueReply, state, flag_eq, wordBytes_valueWord, causeBytes_eq, wordBytes_ageWord]
  simp only [wordBytes_eq]
  rfl

theorem alertsContent_eq (start : Nat) (s : State) : alertsContent start s = alertsReply s start := by
  refine congrArg ([byteOf start, byteOf s.alerts.queue.length] ++ ·) (List.flatMap_congr fun r _ => ?_)
  simp only [recordBytes, alertByte0_eq, recordByte1_eq, wordBytes_signedWord]
  simp only [wordBytes_eq]
  rfl

theorem thresholdActive_iff (c : WatchConfig) (r : WatchRun) :
    thresholdActive c r = true ↔ (r.zone = .above ∧ c.crossing ≠ .falling) ∨ (r.zone = .below ∧ c.crossing ≠ .rising) := by
  unfold thresholdActive alarming
  cases c.crossing <;> cases r.zone <;> decide

theorem sourceLostActive_iff (t : Map Entry) (c : WatchConfig) :
    sourceLostActive t c = true ↔ ∃ k ∈ watchKeys c, (t.find k).map Entry.unreachable = some true := by
  have keys : sourcesOf c = watchKeys c := by
    unfold sourcesOf watchKeys
    cases c.sourceB <;> rfl
  have marked (k : Nat) : isMarked t k = true ↔ (t.find k).map Entry.unreachable = some true := by
    unfold isMarked
    cases t.find k <;> simp
  simp [sourceLostActive, keys, marked]

theorem runByte_eq (t : Map Entry) (c : WatchConfig) (r : WatchRun) : runByte t c r =
    b8 (zoneNo r.zone + (match r.candidate with | some k => 4 * zoneNo k.zone + 16 | none => 0) +
      32 * one ((r.zone = .above ∧ c.crossing ≠ .falling) ∨ (r.zone = .below ∧ c.crossing ≠ .rising)) +
      64 * one (∃ k ∈ watchKeys c, (t.find k).map Entry.unreachable = some true)) := by
  rw [← one_congr (thresholdActive_iff c r), ← one_congr (sourceLostActive_iff t c)]
  apply BitVec.eq_of_toNat_eq
  have := one_le (thresholdActive c r = true)
  have := one_le (sourceLostActive t c = true)
  have := zoneNo_le r.zone
  simp only [runByte, toNat_append_add, toNat_bit, toNat_zoneCode, toNat_b8]
  rcases r.candidate with _ | k
  · have : one ((none : Option Candidate).isSome = true) = 0 := rfl
    have : zoneNo .unknown = 0 := rfl
    simp only [Option.map_none, Option.getD_none, BitVec.toNat_ofNat]
    omega
  · have : one ((some k).isSome = true) = 1 := rfl
    have := zoneNo_le k.zone
    simp only [Option.map_some, Option.getD_some, BitVec.toNat_ofNat]
    omega

theorem watchContent_eq (w : Nat) (s : State) : watchContent w s = match s.cfg.watches[w]?, s.watches[w]? with
    | some c, some r => some (watchReply s w c r)
    | _, _ => none := by
  have image : watchBytes s w = (((s.station.image.map Image.bytes).getD []).drop (29 + 10 * w)).take 10 := by
    unfold watchBytes watchOffset
    cases s.station.image <;> simp
  unfold watchContent
  rcases s.cfg.watches[w]? with _ | c
  · rfl
  · rcases s.watches[w]? with _ | r
    · rfl
    · refine congrArg some ?_
      show _ = watchReply s w c r
      simp only [watchReply, image, runByte_eq, wordBytes_signedWord]
      simp only [wordBytes_eq]
      rcases r.candidate with _ | k
      · rfl
      · rfl

theorem tallyContent_eq (which : Nat) (s : State) :
    tallyContent which s = (if which = 0 then s.sweeps.current else s.sweeps.previous).map (tallyReply which) := by
  unfold tallyContent
  congr 1
  funext t
  have state : tallyCode t.state = match t.state with | .opened => 0 | .complete => 1 | .incomplete => 2 | .superseded => 3 := by
    cases t.state <;> rfl
  simp only [tallyReply, state, wordBytes_eq, longBytes_eq]
  rfl

theorem groupContent_eq {g : Nat} {s : State} {gr : Group} (h : s.alerts.groups[g]? = some gr) :
    groupContent g s = groupReply g gr (setOf 32 gr.asserters.keys) := by
  simp only [groupContent, h, Option.getD_some, groupReply, flag_eq, longBytes_eq, wordBytes_eq, groupSetsCarried]
  rfl

theorem rosterContent_eq (a : Nat) (s : State) : rosterContent a s =
    if s.roster.self.map BitVec.toNat = some a then [b8 a, b8 (4 + 128), 0, 0] ++ presencePayload (ownPresence s)
    else peerReply s a (s.roster.peers.find a) := by
  unfold rosterContent
  split
  · rw [presenceBytes_eq, formPresence_eq]
    rfl
  · rcases s.roster.peers.find a with _ | p
    · rfl
    · have state : peerCode p.state = match p.state with | .present => 1 | .silent => 2 | .lost => 3 := by
        cases p.state <;> rfl
      simp only [peerReply, state, flag_eq, wordBytes_ageWord, funext presenceBytes_eq]
      rfl

/-- Settles O48. -/
theorem queriesAreAnswered : Obligations.QueriesAreAnswered := by
  refine ⟨fun s src kind tag arg h ha ho hq hh suits other => exec_query_of_answered h ha ho hq hh suits other, fun s a c => ?_⟩
  have byte : b8 a.toNat = a := BitVec.ofNat_toNat _ _
  have zero : a.toNat = 0 ↔ a = 0 := by simp [← BitVec.toNat_inj]
  refine ⟨congrArg some (statusPart0_eq s), fun _ => congrArg some ?_, ?_, congrArg some (alertsContent_eq _ s), watchContent_eq _ s,
    fun _ => ?_, fun g hg => ⟨setOf 32 g.asserters.keys, fun x hx => ?_, congrArg some (groupContent_eq hg)⟩, congrArg some ?_⟩
  · simp only [argNumber, statusContent_eq, zero]
  · exact congrArg (fun f => (s.table.find (a.toNat * 8 + c.toNat)).map f) (funext fun e => entryContent_eq s _ e)
  · refine (tallyContent_eq a.toNat s).trans ?_
    simp only [zero]
  · rw [setHas_setOf hx]
    exact (Map.isSome_find_iff _ _).symm
  · refine (rosterContent_eq a.toNat s).trans ?_
    rw [byte]

/-! The length of the answers (Table 12-1) -/

theorem length_flatMap_le {α : Type} {f : α → List Byte} {k n : Nat} (hf : ∀ x, (f x).length = k) {l : List α} (hl : l.length ≤ n) :
    (l.flatMap f).length ≤ n * k := by
  have : (l.flatMap f).length = l.length * k := by
    induction l with
    | nil => simp
    | cons x l ih => rw [List.flatMap_cons, List.length_append, hf, ih (by simp at hl; omega), List.length_cons, Nat.add_one_mul,
        Nat.add_comm]
  exact this ▸ Nat.mul_le_mul_right k hl

theorem length_causeBytes (c : Cause) : (causeBytes c).length = 3 := by cases c <;> rfl

theorem length_statusContent (part : Nat) (s : State) : (statusContent part s).length ≤ 17 := by
  unfold statusContent
  split_ifs
  all_goals exact Nat.le_of_ble_eq_true rfl

theorem length_entryContent (now : Time) (e : Entry) : (entryContent now e).length ≤ 12 := by
  unfold entryContent
  rcases e.latest with _ | l
  all_goals rcases e.sweep with _ | p
  all_goals simp [wordBytes, length_causeBytes]

theorem length_alertsContent (start : Nat) (s : State) : (alertsContent start s).length ≤ 26 := by
  have := length_flatMap_le (f := recordBytes s.cfg) (k := 6) (fun _ => rfl) (List.length_take_le 4 (s.alerts.queue.drop start))
  rw [alertsContent, List.length_append, List.length_cons, List.length_cons, List.length_nil]
  omega

theorem length_watchContent {w : Nat} {s : State} {content : List Byte} (h : watchContent w s = some content) :
    content.length ≤ 17 := by
  have image : (watchBytes s w).length ≤ 10 := by
    unfold watchBytes
    split
    next im => exact List.length_take_le ..
    · simp
  unfold watchContent at h
  split at h
  next c r _ _ =>
    rw [← Option.some.inj h]
    simp only [List.length_cons, List.length_append, List.length_nil, wordBytes]
    omega
  · simp at h

theorem length_tallyContent {which : Nat} {s : State} {content : List Byte} (h : tallyContent which s = some content) :
    content.length ≤ 14 := by
  obtain ⟨t, -, rfl⟩ := Option.map_eq_some_iff.mp h
  exact Nat.le_refl 14

theorem length_groupContent (g : Nat) (s : State) : (groupContent g s).length ≤ 30 := by
  have (gr : Group) := length_flatMap_le (f := fun p : Nat × WatchSet => wordBytes p.2) (k := 2) (fun _ => rfl)
    (List.length_take_le groupSetsCarried gr.asserters)
  simp only [groupContent, List.length_append, List.length_cons, List.length_nil, longBytes]
  exact Nat.add_le_add_left (this _) 6

theorem length_rosterContent (a : Nat) (s : State) : (rosterContent a s).length ≤ 10 := by
  have presence (p : Presence) : (presenceBytes p).length = 6 := rfl
  unfold rosterContent
  split
  · exact Nat.le_refl 10
  · split
    next p _ => rcases p.info with _ | i <;> simp [wordBytes, presence]
    · simp

/-- Settles O50: the content of each kind of REPLY. -/
theorem replyFitsPayload : Obligations.ReplyFitsPayload := by
  intro s kind arg content h
  unfold replyContent at h
  split at h
  next => exact Option.some.inj h ▸ (length_statusContent ..).trans (by decide)
  next =>
    obtain ⟨e, -, rfl⟩ := Option.map_eq_some_iff.mp h
    exact (Nat.succ_le_succ (length_entryContent ..)).trans (by decide)
  next => exact Option.some.inj h ▸ (length_alertsContent ..).trans (by decide)
  next => exact (length_watchContent h).trans (by decide)
  next => exact (length_tallyContent h).trans (by decide)
  next => exact Option.some.inj h ▸ length_groupContent ..
  next => exact Option.some.inj h ▸ (length_rosterContent ..).trans (by decide)
  next => simp at h

end Sys2Proof.Machine
end
section
/-! The bytes of frames (R181 to R183): written, and read back. -/

namespace Sys2Proof.Machine
open Sys2Proof.Safety

/-! Single fields -/

theorem wordOf_bytes (x : BitVec 16) : wordOf (hiByte x) (loByte x) = x := by
  apply BitVec.eq_of_toNat_eq
  have := x.isLt
  rw [wordOf, hiByte_eq, loByte_eq, toNat_append_add, toNat_b8, toNat_b8]
  omega

theorem getLsbD_eq_decide {w : Nat} (x : BitVec w) (i : Nat) : x.getLsbD i = decide (x.toNat / 2 ^ i % 2 = 1) := by
  rw [← Nat.testBit_eq_decide_div_mod_eq, BitVec.testBit_toNat]

theorem extractLsb'_eq_of_toNat {w k n : Nat} {x : BitVec w} {y : BitVec n} (h : x.toNat / 2 ^ k % 2 ^ n = y.toNat) :
    x.extractLsb' k n = y := by
  apply BitVec.eq_of_toNat_eq
  rw [BitVec.extractLsb'_toNat, Nat.shiftRight_eq_div_pow, h]

theorem getLsbD_bit (b : Bool) : (bit b).getLsbD 0 = b := by cases b <;> rfl

theorem presenceOf_bytes (p : Presence) : presenceOf (presenceByte0 p) (hiByte p.signature) (loByte p.signature)
    (hiByte (p.lastSweep.getD 0)) (loByte (p.lastSweep.getD 0)) p.alerts = p := by
  have active : (presenceByte0 p).getLsbD 7 = p.active := by
    simp only [presenceByte0, BitVec.getLsbD_append, getLsbD_bit, Nat.reduceLT, Nat.reduceSub, if_false]
  have participation : (presenceByte0 p).getLsbD 6 = p.participation := by
    simp only [presenceByte0, BitVec.getLsbD_append, getLsbD_bit, Nat.reduceLT, Nat.reduceSub, if_false, if_true]
  have last : (presenceByte0 p).getLsbD 5 = p.lastSweep.isSome := by
    simp only [presenceByte0, BitVec.getLsbD_append, getLsbD_bit, Nat.reduceLT, Nat.reduceSub, if_false, if_true]
  have period : (presenceByte0 p).extractLsb' 0 2 = p.period := by
    refine extractLsb'_eq_of_toNat ?_
    simp only [presenceByte0, toNat_append_add]
    omega
  simp only [presenceOf, active, participation, last, period, wordOf_bytes]
  rcases p with ⟨_, _, _, _, _ | n, _⟩
  · rfl
  · rfl

theorem zoneOfCode_zoneCode (z : Zone) : zoneOfCode (zoneCode z) = z := by cases z <;> rfl

theorem alertMiddle_bits (threshold lost : Bool) (level : BitVec 2) (zone : Zone) :
    (alertMiddle threshold lost level zone).getLsbD 5 = threshold ∧ (alertMiddle threshold lost level zone).getLsbD 4 = lost := by
  simp only [alertMiddle, BitVec.getLsbD_append, getLsbD_bit, Nat.reduceLT, Nat.reduceSub, if_false, if_true, and_self]

theorem alertOf_bytes (a : Alert) : alertOf (alertByte0 a.watch a.group) (alertByte1 a) (hiByte a.sequence) (loByte a.sequence)
    (hiByte a.value) (loByte a.value) = a := by
  have watch : (alertByte0 a.watch a.group).extractLsb' 0 4 = a.watch := by
    refine extractLsb'_eq_of_toNat ?_
    simp only [alertByte0, toNat_append_add]
    omega
  have grouped : (alertByte0 a.watch a.group).getLsbD 7 = a.group.isSome := by
    simp only [alertByte0, BitVec.getLsbD_append, getLsbD_bit, Nat.reduceLT, Nat.reduceSub, if_false]
  have group : (alertByte0 a.watch a.group).extractLsb' 4 3 = a.group.getD 0 := by
    refine extractLsb'_eq_of_toNat ?_
    simp only [alertByte0, toNat_append_add]
    omega
  obtain ⟨ht, hl⟩ := alertMiddle_bits a.threshold a.sourceLost a.level a.zone
  have cleared : (alertByte1 a).getLsbD 7 = a.cleared := by
    simp only [alertByte1, BitVec.getLsbD_append, getLsbD_bit, Nat.reduceLT, Nat.reduceSub, if_false]
  have threshold : (alertByte1 a).getLsbD 6 = a.threshold := by
    simp only [alertByte1, BitVec.getLsbD_append, Nat.reduceLT, Nat.reduceSub, if_false, if_true, ht]
  have lost : (alertByte1 a).getLsbD 5 = a.sourceLost := by
    simp only [alertByte1, BitVec.getLsbD_append, Nat.reduceLT, Nat.reduceSub, if_false, if_true, hl]
  have level : (alertByte1 a).extractLsb' 3 2 = a.level := by
    refine extractLsb'_eq_of_toNat ?_
    simp only [alertByte1, alertMiddle, toNat_append_add, BitVec.toNat_ofNat]
    omega
  have zone : (alertByte1 a).extractLsb' 1 2 = zoneCode a.zone := by
    refine extractLsb'_eq_of_toNat ?_
    simp only [alertByte1, alertMiddle, toNat_append_add, BitVec.toNat_ofNat]
    omega
  simp only [alertOf, watch, grouped, group, cleared, threshold, lost, level, zone, zoneOfCode_zoneCode, wordOf_bytes]
  rcases a with ⟨_, _ | g, _, _, _, _, _, _, _⟩
  · rfl
  · rfl

theorem itemsOf_cons (c h l : Byte) (rest : List Byte) : itemsOf (c :: h :: l :: rest) =
    (itemsOf rest).map (fun items =>
      { channel := c.extractLsb' 0 3, value := valueOfWord (wordOf h l), flags := qualityOfWord (wordOf h l) } :: items) := rfl

theorem valueOfWord_valueWord (v : Value) (q : Quality) : valueOfWord (valueWord v q) = v := by
  refine extractLsb'_eq_of_toNat ?_
  simp only [valueWord, toNat_append_add]
  omega

theorem qualityOfWord_valueWord (v : Value) (q : Quality) : qualityOfWord (valueWord v q) = q := by
  simp only [qualityOfWord, valueWord, Quality.bits, BitVec.getLsbD_append, getLsbD_bit, Nat.reduceLT, Nat.reduceSub, if_false, if_true]

theorem itemsOf_bytes (items : List Item) : itemsOf (items.flatMap itemBytes) = some items := by
  induction items with
  | nil => rfl
  | cons it items ih =>
    have channel : (0#5 ++ it.channel).extractLsb' 0 3 = it.channel := by
      refine extractLsb'_eq_of_toNat ?_
      simp only [toNat_append_add, BitVec.toNat_ofNat]
      omega
    have head : (it :: items).flatMap itemBytes = (0#5 ++ it.channel) :: hiByte (valueWord it.value it.flags) ::
        loByte (valueWord it.value it.flags) :: items.flatMap itemBytes := rfl
    rw [head, itemsOf_cons, ih, channel, wordOf_bytes, valueOfWord_valueWord, qualityOfWord_valueWord, Option.map_some]

theorem causeOf_bytes (c : Cause) : ∃ b0 b1 b2, causeBytes c = [b0, b1, b2] ∧ causeOf b0 b1 b2 = c := by
  rcases c with n | ⟨r, t⟩ | n | n
  · exact ⟨_, _, _, rfl, congrArg Cause.sweep (wordOf_bytes n)⟩
  · exact ⟨_, _, _, rfl, rfl⟩
  · exact ⟨_, _, _, rfl, congrArg Cause.trigger (wordOf_bytes n)⟩
  · exact ⟨_, _, _, rfl, congrArg Cause.cadence (wordOf_bytes n)⟩

theorem kind_bits (b : Bool) (k : BitVec 3) : (bit b ++ 0#4 ++ k).extractLsb' 0 3 = k ∧ (bit b ++ 0#4 ++ k).getLsbD 7 = b := by
  refine ⟨extractLsb'_eq_of_toNat ?_, ?_⟩
  · simp only [toNat_append_add]
    omega
  · simp only [BitVec.getLsbD_append, getLsbD_bit, Nat.reduceLT, Nat.reduceSub, if_false]

/-- Every payload is read back (Table 12-1, Table 12-2). -/
theorem bodyOf_payloadBytes (b : Body) (h : Body.lengthOk b = true) :
    bodyOf (Body.cls b).toNat (Body.code b).toNat (payloadBytes b) = some b := by
  cases b with
  | presence p => exact congrArg (fun p => some (Body.presence p)) (presenceOf_bytes p)
  | sweep n => exact congrArg (fun n => some (Body.sweep n)) (wordOf_bytes n)
  | measure tag samples channels => exact if_pos (of_decide_eq_true h)
  | result cause items =>
    have count : 1 ≤ items.length ∧ items.length ≤ 8 := by simpa [Body.lengthOk] using h
    obtain ⟨b0, b1, b2, bytes, hc⟩ := causeOf_bytes cause
    have payload : payloadBytes (.result cause items) = b0 :: b1 :: b2 :: items.flatMap itemBytes := by
      rw [payloadBytes, bytes]
      rfl
    rw [payload]
    show (itemsOf (items.flatMap itemBytes)).bind _ = _
    rw [itemsOf_bytes, Option.bind_some, if_pos count, hc]
  | refuse kind reason tag =>
    have bits := kind_bits (kind == .query) reason
    show some (Body.refuse (if (refuseByte0 kind reason).getLsbD 7 then .query else .measure) _ tag) = _
    rw [refuseByte0, bits.1, bits.2]
    cases kind <;> rfl
  | alert a => exact congrArg (fun a => some (Body.alert a)) (alertOf_bytes a)
  | ack q => exact congrArg (fun q => some (Body.ack q)) (wordOf_bytes q)
  | query kind tag arg =>
    have bits : (0#5 ++ kind).extractLsb' 0 3 = kind := by
      refine extractLsb'_eq_of_toNat ?_
      simp only [toNat_append_add, BitVec.toNat_ofNat]
      omega
    cases arg <;> exact congrArg (fun k => some (Body.query k tag _)) bits
  | reply tag kind notHeld content =>
    have bits := kind_bits notHeld kind
    show (if content.length ≤ 30 then some (Body.reply tag ((bit notHeld ++ 0#4 ++ kind).extractLsb' 0 3) _ content) else none) = _
    rw [if_pos (of_decide_eq_true h), bits.1, bits.2]

/-! Whole frames -/

theorem length_payloadBytes {b : Body} (h : Body.lengthOk b = true) : (payloadBytes b).length < 256 := by
  cases b with
  | presence p => exact Nat.le_of_ble_eq_true rfl
  | sweep n => exact Nat.le_of_ble_eq_true rfl
  | measure tag samples channels =>
    have : channels.length ≤ 8 := of_decide_eq_true h
    simp only [payloadBytes, List.length_cons]
    omega
  | result cause items =>
    have count : items.length ≤ 8 := by
      simp [Body.lengthOk] at h
      exact h.2
    have := length_flatMap_le (f := itemBytes) (k := 3) (fun _ => rfl) count
    simp only [payloadBytes, List.length_append, length_causeBytes]
    omega
  | refuse kind reason tag => exact Nat.le_of_ble_eq_true rfl
  | alert a => exact Nat.le_of_ble_eq_true rfl
  | ack q => exact Nat.le_of_ble_eq_true rfl
  | query kind tag arg => cases arg <;> exact Nat.le_of_ble_eq_true rfl
  | reply tag kind notHeld content =>
    have : content.length ≤ 30 := of_decide_eq_true h
    simp only [payloadBytes, List.length_cons]
    omega

theorem header_bits (cls : BitVec 2) (src dst : Addr) (code : BitVec 4) :
    (headerByte0 cls src code).extractLsb' 6 2 = cls ∧ (headerByte0 cls src code).extractLsb' 1 5 = src ∧
    (headerByte1 code dst).extractLsb' 0 5 = dst ∧
    (headerByte0 cls src code).extractLsb' 0 1 ++ (headerByte1 code dst).extractLsb' 5 3 = code := by
  have toNat0 : (headerByte0 cls src code).toNat = cls.toNat * 64 + src.toNat * 2 + code.toNat / 8 := by
    have := code.isLt
    simp only [headerByte0, toNat_append_add, BitVec.extractLsb'_toNat, Nat.shiftRight_eq_div_pow]
    omega
  have toNat1 : (headerByte1 code dst).toNat = code.toNat % 8 * 32 + dst.toNat := by
    simp only [headerByte1, toNat_append_add, BitVec.extractLsb'_toNat, Nat.shiftRight_zero, Nat.reducePow]
  have := cls.isLt
  have := src.isLt
  have := dst.isLt
  have := code.isLt
  refine ⟨extractLsb'_eq_of_toNat ?_, extractLsb'_eq_of_toNat ?_, extractLsb'_eq_of_toNat ?_, BitVec.eq_of_toNat_eq ?_⟩
  · rw [toNat0]
    omega
  · rw [toNat0]
    omega
  · rw [toNat1]
    omega
  · rw [toNat_append_add, BitVec.extractLsb'_toNat, BitVec.extractLsb'_toNat, Nat.shiftRight_eq_div_pow, Nat.shiftRight_eq_div_pow,
      toNat0, toNat1]
    omega

theorem readFrame_bytes {f : Frame} (h : Body.lengthOk f.body = true) :
    readFrame (headerByte0 (Body.cls f.body) f.src (Body.code f.body)) (headerByte1 (Body.code f.body) f.dst) (payloadBytes f.body) =
      .frame f := by
  obtain ⟨cls, src, dst, code⟩ := header_bits (Body.cls f.body) f.src f.dst (Body.code f.body)
  rw [readFrame, cls, code, src, dst, bodyOf_payloadBytes _ h]

theorem readBytes_frameBytes {f : Frame} (h : Body.lengthOk f.body = true) : readBytes (frameBytes f) = .frame f := by
  have count : (byteOf (payloadBytes f.body).length).toNat = (payloadBytes f.body).length :=
    (toNat_b8 _).trans (Nat.mod_eq_of_lt (length_payloadBytes h))
  show readBytes (_ :: _ :: _ :: (payloadBytes f.body ++ wordBytes (checkValue (frameHead f)))) = _
  simp only [readBytes, count, List.take_left, List.drop_left]
  rw [if_neg (by simp [wordBytes])]
  exact (if_pos rfl).trans (readFrame_bytes h)

theorem checkBit_eq (r : BitVec 16) (d : Bool) : checkBit r d = if r.getLsbD 15 = d then r <<< 1 else (r <<< 1) ^^^ 0x1021 := by
  simp [checkBit]

/-- Settles O51. -/
theorem frameBytesReadBack : Obligations.FrameBytesReadBack := by
  refine ⟨fun f h => readBytes_frameBytes h, rfl, fun bytes b => ?_⟩
  rw [checkValue, List.foldl_append]
  show checkByte (checkValue bytes) b = _
  simp only [checkByte, checkBit_eq]

end Sys2Proof.Machine
end
section
/-! Received bytes and frames: which are discarded and counted (R149, R158 to R160, R182). -/

namespace Sys2Proof.Machine
open Sys2Proof.Safety

/-! Payloads by class and kind code (Table 12-1) -/

theorem length_of_itemsOf : ∀ {l : List Byte} {items : List Item}, itemsOf l = some items → l.length = 3 * items.length
  | [], _, h => by
    rw [← Option.some.inj h]
    rfl
  | [_], _, h => by simp [itemsOf] at h
  | [_, _], _, h => by simp [itemsOf] at h
  | c :: h :: l :: rest, items, hs => by
    obtain ⟨items', hr, rfl⟩ := Option.map_eq_some_iff.mp ((itemsOf_cons c h l rest).symm.trans hs)
    have := length_of_itemsOf hr
    simp only [List.length_cons]
    omega

theorem exists_itemsOf : ∀ {n : Nat} {l : List Byte}, l.length = 3 * n → ∃ items, itemsOf l = some items ∧ items.length = n
  | 0, l, h => ⟨[], by rw [List.length_eq_zero_iff.mp (by omega : l.length = 0)]; rfl, rfl⟩
  | n + 1, c :: h :: l :: rest, hl => by
    obtain ⟨items, hi, hn⟩ := exists_itemsOf (l := rest) (n := n) (by simp only [List.length_cons] at hl; omega)
    exact ⟨_, (itemsOf_cons c h l rest).trans (congrArg _ hi), congrArg (· + 1) hn⟩
  | n + 1, [], h => by simp at h
  | n + 1, [_], h => by simp at h; omega
  | n + 1, [_, _], h => by simp at h; omega

theorem isSome_result_iff (b0 b1 b2 : Byte) (rest : List Byte) :
    (bodyOf 2 4 (b0 :: b1 :: b2 :: rest)).isSome = true ↔ rest.length + 3 ∈ allowedLengths 2 4 := by
  show ((itemsOf rest).bind (fun items =>
    if 1 ≤ items.length ∧ items.length ≤ 8 then some (Body.result (causeOf b0 b1 b2) items) else none)).isSome = true ↔ _
  have allowed : rest.length + 3 ∈ allowedLengths 2 4 ↔ ∃ n, rest.length = 3 * n ∧ 1 ≤ n ∧ n ≤ 8 := by
    refine ⟨fun h => ⟨rest.length / 3, ?_⟩, ?_⟩
    · simp [allowedLengths] at h
      omega
    · rintro ⟨n, hn, h1, h8⟩
      simp [allowedLengths]
      omega
  rw [allowed]
  refine ⟨fun h => ?_, ?_⟩
  · rcases hi : itemsOf rest with _ | items
    · simp [hi] at h
    · refine ⟨items.length, length_of_itemsOf hi, ?_⟩
      by_contra hn
      simp [hi, hn] at h
  · rintro ⟨n, hn, h1, h8⟩
    obtain ⟨items, hi, rfl⟩ := exists_itemsOf hn
    simp [hi, h1, h8]

/-- A payload is read where its kind is one of the nine and allows the length. -/
theorem isSome_bodyOf_iff (cls code : Nat) (payload : List Byte) :
    (bodyOf cls code payload).isSome = true ↔ payload.length ∈ allowedLengths cls code := by
  unfold allowedLengths
  split
  next => rcases payload with _ | ⟨_, _ | ⟨_, _ | ⟨_, _ | ⟨_, _ | ⟨_, _ | ⟨_, _ | ⟨_, _⟩⟩⟩⟩⟩⟩⟩ <;> simp [bodyOf]
  next => rcases payload with _ | ⟨_, _ | ⟨_, _ | ⟨_, _⟩⟩⟩ <;> simp [bodyOf]
  next =>
    rcases payload with _ | ⟨_, _ | ⟨_, channels⟩⟩
    · simp [bodyOf]
    · simp [bodyOf]
    · simp [bodyOf]
      rw [← List.length_eq_zero_iff]
      omega
  next =>
    rcases payload with _ | ⟨_, _ | ⟨_, _ | ⟨_, rest⟩⟩⟩
    · simp [bodyOf]
    · simp [bodyOf]
    · simp [bodyOf]
    · exact isSome_result_iff _ _ _ rest
  next => rcases payload with _ | ⟨_, _ | ⟨_, _ | ⟨_, _⟩⟩⟩ <;> simp [bodyOf]
  next => rcases payload with _ | ⟨_, _ | ⟨_, _ | ⟨_, _ | ⟨_, _ | ⟨_, _ | ⟨_, _ | ⟨_, _⟩⟩⟩⟩⟩⟩⟩ <;> simp [bodyOf]
  next => rcases payload with _ | ⟨_, _ | ⟨_, _ | ⟨_, _⟩⟩⟩ <;> simp [bodyOf]
  next => rcases payload with _ | ⟨_, _ | ⟨_, _ | ⟨_, _ | ⟨_, _ | ⟨_, _⟩⟩⟩⟩⟩ <;> simp [bodyOf]
  next =>
    rcases payload with _ | ⟨_, _ | ⟨_, content⟩⟩
    · simp [bodyOf]
    · simp [bodyOf]
    · simp [bodyOf]
      omega
  next =>
    have : bodyOf cls code payload = none := by
      unfold bodyOf
      split <;> simp_all
    simp [this]

theorem kind_of_bodyOf {cls code : Nat} {payload : List Byte} {b : Body} (h : bodyOf cls code payload = some b) :
    (Body.cls b).toNat = cls ∧ (Body.code b).toNat = code := by
  unfold bodyOf at h
  split at h
  case h_3 => exact Option.some.inj (Option.ite_none_right_eq_some.mp h).2 ▸ ⟨rfl, rfl⟩
  case h_4 =>
    obtain ⟨items, -, hi⟩ := Option.bind_eq_some_iff.mp h
    exact Option.some.inj (Option.ite_none_right_eq_some.mp hi).2 ▸ ⟨rfl, rfl⟩
  case h_11 => exact Option.some.inj (Option.ite_none_right_eq_some.mp h).2 ▸ ⟨rfl, rfl⟩
  case h_12 => simp at h
  all_goals exact Option.some.inj h ▸ ⟨rfl, rfl⟩

/-! What received bytes are (R158 check 1, R182) -/

section
variable (h0 h1 n : Byte) (rest : List Byte)

theorem header_class : (h0.extractLsb' 6 2).toNat = h0.toNat / 64 := by
  have := h0.isLt
  rw [BitVec.extractLsb'_toNat, Nat.shiftRight_eq_div_pow]
  omega

theorem header_code : (h0.extractLsb' 0 1 ++ h1.extractLsb' 5 3).toNat = h0.toNat % 2 * 8 + h1.toNat / 32 := by
  have := h1.isLt
  rw [toNat_append_add, BitVec.extractLsb'_toNat, BitVec.extractLsb'_toNat, Nat.shiftRight_eq_div_pow, Nat.shiftRight_eq_div_pow]
  omega

theorem readFrame_of_not_allowed {payload : List Byte}
    (h : payload.length ∉ allowedLengths (h0.toNat / 64) (h0.toNat % 2 * 8 + h1.toNat / 32)) : readFrame h0 h1 payload = .malformed := by
  have none_read := Option.not_isSome_iff_eq_none.mp (mt (isSome_bodyOf_iff _ _ _).mp h)
  rw [readFrame, header_class, header_code, none_read]

theorem readFrame_of_allowed {payload : List Byte}
    (h : payload.length ∈ allowedLengths (h0.toNat / 64) (h0.toNat % 2 * 8 + h1.toNat / 32)) :
    ∃ f, readFrame h0 h1 payload = .frame f ∧ f.src.toNat = h0.toNat / 2 % 32 ∧ f.dst.toNat = h1.toNat % 32 ∧
      (Body.cls f.body).toNat = h0.toNat / 64 ∧ (Body.code f.body).toNat = h0.toNat % 2 * 8 + h1.toNat / 32 := by
  obtain ⟨b, hb⟩ := Option.isSome_iff_exists.mp ((isSome_bodyOf_iff _ _ _).mpr h)
  obtain ⟨cls, code⟩ := kind_of_bodyOf hb
  refine ⟨{ src := h0.extractLsb' 1 5, dst := h1.extractLsb' 0 5, body := b }, ?_, ?_, ?_, cls, code⟩
  · rw [readFrame, header_class, header_code, hb]
  · exact (BitVec.extractLsb'_toNat ..).trans (congrArg (· % 32) (Nat.shiftRight_eq_div_pow ..))
  · exact BitVec.extractLsb'_toNat ..

/-- The payload and the check value that the header announces have arrived, and the check value matches. -/
def Whole : Prop := n.toNat + 2 ≤ rest.length ∧
  (rest.drop n.toNat).take 2 = wordBytes (checkValue (h0 :: h1 :: n :: rest.take n.toNat))

theorem readBytes_of_not_whole (h : ¬ Whole h0 h1 n rest) : readBytes (h0 :: h1 :: n :: rest) = .checkFailed := by
  simp only [readBytes]
  split
  next => rfl
  next hl =>
    rw [if_neg]
    exact fun hc => h ⟨Nat.not_lt.mp hl, hc⟩

theorem readBytes_of_whole (h : Whole h0 h1 n rest) :
    readBytes (h0 :: h1 :: n :: rest) = readFrame h0 h1 (rest.take n.toNat) := by
  simp only [readBytes]
  rw [if_neg (Nat.not_lt.mpr h.1), if_pos h.2]

theorem length_payload (h : Whole h0 h1 n rest) : (rest.take n.toNat).length = n.toNat :=
  List.length_take_of_le (by have := h.1; omega)

end

theorem readBytes_of_short {bytes : List Byte} (h : bytes.length < 3) : readBytes bytes = .checkFailed := by
  rcases bytes with _ | ⟨_, _ | ⟨_, _ | ⟨_, _⟩⟩⟩
  · rfl
  · rfl
  · rfl
  · simp only [List.length_cons] at h
    omega

/-! Well-formed frames (R158 check 2, R182) -/

section
variable (content : List Byte) (i : Nat)

theorem isStation_iff (n : Nat) : isStation n = true ↔ 1 ≤ n ∧ n ≤ 30 := by simp [isStation]

theorem byteHolds_iff (p : Nat → Bool) : byteHolds content i p = true ↔ ByteIn content i (fun n => p n = true) := by
  unfold byteHolds ByteIn
  rcases content[i]? with _ | b <;> simp

theorem wordHolds_iff (p : BitVec 16 → Bool) :
    wordHolds content i p = true ↔ ∀ h l, content[i]? = some h → content[i + 1]? = some l → p (wordOf h l) = true := by
  unfold wordHolds
  rcases content[i]? with _ | h
  · simp
  · rcases content[i + 1]? with _ | l <;> simp

theorem bitAt_iff (n : Nat) : bitAt content i n = true ↔ HasBit content i n := by
  unfold bitAt HasBit
  rcases content[i]? with _ | b <;> simp

theorem signedWordOk_iff (x : BitVec 16) : signedWordOk x = true ↔ valueOrNone x.toInt := by
  have none : x = 0x8000 ↔ x.toInt = -32768 := by
    rw [← BitVec.toInt_inj]
    rfl
  rw [signedWordOk, Bool.or_eq_true, beq_iff_eq, none]
  simp

theorem thresholdOk_iff (difference : Bool) (x : Int) :
    thresholdOk difference x = true ↔ -4095 ≤ x ∧ x ≤ 4095 ∧ (difference = true ∨ 0 ≤ x) := by
  cases difference
  · simp [thresholdOk]
    omega
  · simp [thresholdOk]

theorem keyByte_iff (k : Nat) : isStation (k / 8) = true ↔ 8 ≤ k ∧ k < 248 := by
  simp [isStation]
  omega

end

theorem not_or_iff_imp (a b : Bool) : (!a || b) = true ↔ (a = true → b = true) := by cases a <;> simp

/-- A byte has bytes before it. -/
theorem getElem?_before {content : List Byte} {i j : Nat} {b : Byte} (h : content[j]? = some b) (hij : i ≤ j) : ∃ a, content[i]? = some a := by
  obtain ⟨hj, -⟩ := List.getElem?_eq_some_iff.mp h
  exact ⟨content[i], List.getElem?_eq_getElem (by omega)⟩

section
variable (content : List Byte)

theorem statusInRange_iff (q : Bool) (h : content = [] → q = true) :
    ((content[0]?).getD 0#8 != 0#8 || q) = true ↔ (content[0]? = some 0#8 → q = true) := by
  rcases content with _ | ⟨b, content⟩
  · simp [h]
  · by_cases hb : b = 0#8
    · simp [hb]
    · simp [hb]

theorem causeInRange_iff :
    (!(bitAt content 1 4 && byteHolds content 4 (· % 4 == 1)) || byteHolds content 5 isStation) = true ↔
      (HasBit content 1 4 → (∃ c, content[4]? = some c ∧ c.toNat % 4 = 1) → ByteIn content 5 (fun a => 1 ≤ a ∧ a ≤ 30)) := by
  simp only [not_or_iff_imp, Bool.and_eq_true, and_imp, bitAt_iff, byteHolds_iff, isStation_iff, beq_iff_eq]
  refine imp_congr_right fun _ => ⟨fun h hc => ?_, fun h hc a ha => ?_⟩
  · obtain ⟨c, hc, h1⟩ := hc
    exact h fun b hb => Option.some.inj (hc.symm.trans hb) ▸ h1
  · obtain ⟨c, hb⟩ := getElem?_before (i := 4) ha (by decide)
    exact h ⟨c, hb, hc c hb⟩ a ha

theorem persistenceInRange_iff : ByteIn content 12 (fun n => 1 ≤ n ∧ n ≤ ((content[9]?).getD 0#8).toNat) ↔
    ByteIn content 12 (fun n => 1 ≤ n ∧ ∃ p, content[9]? = some p ∧ n ≤ p.toNat) := by
  refine forall_congr' fun b => imp_congr_right fun hb => and_congr_right fun _ => ?_
  obtain ⟨p, hp⟩ := getElem?_before (i := 9) hb (by decide)
  simp [hp]

end

theorem sourceByte_iff (k : Nat) : decide (k / 8 ≤ 30) = true ↔ k < 248 := by
  simp only [decide_eq_true_eq]
  omega

theorem replyInRange_iff (kind : BitVec 3) (content : List Byte) : replyInRange kind false content = true ↔ ReplyInRange kind content := by
  unfold replyInRange ReplyInRange
  simp only [Bool.false_eq_true, if_false]
  rcases kind_cases kind with rfl | rfl | rfl | rfl | rfl | rfl | rfl | rfl
  all_goals simp only [BitVec.ofNat_eq_ofNat, BitVec.reduceToNat]
  · rw [Bool.and_eq_true, statusInRange_iff _ _ (by rintro rfl; rfl)]
    simp only [Bool.and_eq_true, byteHolds_iff, decide_eq_true_eq, and_assoc]
  · rw [Bool.and_eq_true, causeInRange_iff]
    simp only [byteHolds_iff, keyByte_iff]
  · simp only [Bool.and_eq_true, byteHolds_iff, wordHolds_iff, signedWordOk_iff, decide_eq_true_eq, List.all_eq_true, and_assoc]
    refine and_congr_right fun _ => and_congr_right fun _ => ?_
    have place (j : Nat) : 2 + 6 * j + 4 = 6 * j + 6 := by omega
    have index (j : Nat) : j ∈ [0, 1, 2, 3] ↔ j < 4 := by simp; omega
    simp only [place, index]
    rfl
  · simp only [Bool.and_eq_true, not_or_iff_imp, bitAt_iff, byteHolds_iff, wordHolds_iff, keyByte_iff, sourceByte_iff, thresholdOk_iff,
      signedWordOk_iff]
    simp only [decide_eq_true_eq, Bool.or_eq_true, beq_iff_eq, and_assoc]
    rw [← persistenceInRange_iff]
    rfl
  · simp only [Bool.and_eq_true, byteHolds_iff, decide_eq_true_eq]
  · simp only [Bool.and_eq_true, not_or_iff_imp, bitAt_iff, byteHolds_iff, isStation_iff, decide_eq_true_eq]

theorem wellFormed_iff (f : Frame) : Frame.wellFormed f = true ↔
    Body.lengthOk f.body = true ∧ isStation f.src.toNat = true ∧
    (if Body.broadcast f.body = true then f.dst = 31 else isStation f.dst.toNat = true) ∧ Body.fieldsOk f.body = true := by
  unfold Frame.wellFormed
  by_cases h : Body.broadcast f.body = true
  · simp [h, and_assoc, allStations]
  · simp [h, and_assoc]

/-! Frames that are discarded -/

section
variable {s : State}

theorem exec_of_frame {c : Instr} {f : Frame} (h : c.frame = some f) : exec c s = .next (receive f s) := by
  cases c
  all_goals simp [Instr.frame] at h
  all_goals exact h ▸ rfl

theorem bytesKey_le {bytes : List Byte} {q : QueuedFrame} (h : ∀ b, bytes[0]? = some b → Frame.key q.frame ≤ b.toNat / 2) :
    Frame.key q.frame ≤ bytesKey bytes := by
  rcases bytes with _ | ⟨b, bytes⟩
  · have := (Body.cls q.frame.body).isLt
    have := q.frame.src.isLt
    simp only [Frame.key, bytesKey]
    omega
  · exact h b rfl

theorem receiveBytes_of_not_wins {bytes : List Byte} {q : QueuedFrame} (hq : q ∈ onLineFrames s.bus)
    (h : Frame.key q.frame ≤ bytesKey bytes) : receiveBytes bytes s = s := by
  have : winsLine (bytesKey bytes) s = false := by
    simp only [winsLine, List.all_eq_false]
    exact ⟨q, hq, by simp; omega⟩
  simp [receiveBytes, hears, this]

theorem receives_of (hm : s.station.mode ≠ .fault) (hu : s.station.mode = .unloaded → s.station.rstnHigh = true) : receives s = true := by
  unfold receives
  split <;> simp_all

theorem hears_bytes (hr : receives s = true) {bytes : List Byte}
    (hw : ∀ q ∈ onLineFrames s.bus, ∃ b, bytes[0]? = some b ∧ b.toNat / 2 < Frame.key q.frame) : hears (bytesKey bytes) s = true := by
  refine Bool.and_eq_true_iff.mpr ⟨hr, List.all_eq_true.mpr fun q hq => decide_eq_true ?_⟩
  obtain ⟨b, hb, hk⟩ := hw q hq
  rcases bytes with _ | ⟨x, bytes⟩
  · simp at hb
  · exact Option.some.inj hb ▸ hk

theorem receive_of_malformed {f : Frame} (hr : receives s = true) (hf : Frame.wellFormed f = false) (hw : Wins s (Frame.key f)) :
    receive f s = bump .rxMalformed s := by
  have : hears (Frame.key f) s = true := Bool.and_eq_true_iff.mpr ⟨hr, List.all_eq_true.mpr fun q hq => decide_eq_true (hw q hq)⟩
  simp [receive, this, hf]

end

/-- Settles O46. -/
theorem discardedFramesAreCounted : Obligations.DiscardedFramesAreCounted := by
  refine ⟨fun s hm hu => ⟨fun bytes hw => ?_, fun c f hc hf hw => ?_⟩, fun s q hq => ⟨fun bytes hb => ?_, fun c f hc hk => ?_⟩,
    fun bytes h => readBytes_of_short h, ?_, fun f => ?_, fun s src tag kind notHeld content h hw => ?_⟩
  · have hears := hears_bytes (receives_of hm hu) hw
    refine ⟨fun hb => ?_, fun hb => ?_, fun c f hb hc => ?_⟩
    · exact congrArg Host.Outcome.next (by simp only [receiveBytes, hears, hb]; rfl)
    · exact congrArg Host.Outcome.next (by simp only [receiveBytes, hears, hb]; rfl)
    · rw [exec_of_frame hc]
      exact congrArg Host.Outcome.next (by simp only [receiveBytes, hears, hb]; rfl)
  · rw [exec_of_frame hc, receive_of_malformed (receives_of hm hu) hf hw]
    rfl
  · exact congrArg Host.Outcome.next (receiveBytes_of_not_wins hq (bytesKey_le hb))
  · rw [exec_of_frame hc, receive_of_not_wins hq hk]
  · intro h0 h1 n rest bytes whole cls code
    refine ⟨readBytes_of_not_whole h0 h1 n rest, fun hw hn => ?_, fun hw hn => ?_⟩
    · refine (readBytes_of_whole h0 h1 n rest hw).trans (readFrame_of_not_allowed h0 h1 ?_)
      rwa [length_payload h0 h1 n rest hw]
    · rw [show readBytes bytes = _ from readBytes_of_whole h0 h1 n rest hw]
      refine readFrame_of_allowed h0 h1 ?_
      rwa [length_payload h0 h1 n rest hw]
  · rw [wellFormed_iff]
    rcases f with ⟨src, dst, body⟩
    cases body with
    | presence p => simp [Body.lengthOk, Body.broadcast, Body.fieldsOk, isStation_iff, and_assoc]
    | sweep n => simp [Body.lengthOk, Body.broadcast, Body.fieldsOk, isStation_iff, and_assoc]
    | measure tag samples channels => simp [Body.lengthOk, Body.broadcast, Body.fieldsOk, isStation_iff]; tauto
    | result cause items => cases cause <;> simp [Body.lengthOk, Body.broadcast, Body.fieldsOk, Cause.inRange, isStation_iff] <;> tauto
    | refuse kind reason tag => simp [Body.lengthOk, Body.broadcast, Body.fieldsOk, isStation_iff, and_assoc]
    | alert a => simp [Body.lengthOk, Body.broadcast, Body.fieldsOk, isStation_iff, signedWordOk_iff, and_assoc]
    | ack q => simp [Body.lengthOk, Body.broadcast, Body.fieldsOk, isStation_iff, and_assoc]
    | query kind tag arg => simp [Body.lengthOk, Body.broadcast, Body.fieldsOk, isStation_iff, and_assoc]
    | reply tag kind notHeld content =>
      cases notHeld
      · simp [Body.lengthOk, Body.broadcast, Body.fieldsOk, isStation_iff, replyInRange_iff]; tauto
      · simp [Body.lengthOk, Body.broadcast, Body.fieldsOk, isStation_iff, replyInRange]; tauto
  · exact congrArg Host.Outcome.next (receive_plain h hw (.inr rfl) (by simp) (by simp) (t := bump .unexpectedReply s)
      (fun r n => rfl) rfl)

end Sys2Proof.Machine
end
section
/-! One watch: its evaluations, its marks and its record (R83 to R105). -/

namespace Sys2Proof.Machine
open Sys2Proof.Safety

/-! The record of a watch (R103 to R105) -/

/-- The record after a raise (R103). -/
def raised (seq : Count) (cause : AlertCause) (zone : Zone) (x : Option Int) (r : AlertRecord) : AlertRecord :=
  { r with
    sequence := seq, causes := Causes.add r.causes cause, acknowledged := false, announce := true, changed := true, zone := zone
    value := if cause = .threshold then x else r.value }

/-- The one record of the alert queue replaced. -/
def withRecord (r : AlertRecord) (s : State) : State := { s with alerts := { s.alerts with queue := [r] } }

/-- The one record raised under a new sequence. -/
def withRaised (r : AlertRecord) (s : State) : State := { s with alerts := { s.alerts with seq := s.alerts.seq + 1, queue := [r] } }

section
variable {s : State} {a : AlertRecord} {w : Nat}

theorem raiseAlert_of_new (hq : s.alerts.queue = []) (hf : s.alerts.finals = []) (cause : AlertCause) (zone : Zone) (x : Option Int) :
    raiseAlert w cause zone x s =
      announce (ownAssert w true (withRaised (raised (s.alerts.seq + 1) cause zone x (AlertRecord.blank w)) s)) := by
  have record : ensureRecord w s = { s with alerts := { s.alerts with queue := [AlertRecord.blank w] } } := by
    simp [ensureRecord, dropFinal, hq, hf]
  rw [raiseAlert_eq, record, if_pos (by simp [AlertRecord.blank, Causes.isEmpty]), noteRaise]
  simp [updateFirst, AlertRecord.blank, withRaised, raised]

theorem raiseAlert_of_record (hq : s.alerts.queue = [a]) (ha : a.watch = w) (cause : AlertCause) (zone : Zone) (x : Option Int) :
    raiseAlert w cause zone x s = announce (if Causes.isEmpty a.causes
      then ownAssert w true (withRaised (raised (s.alerts.seq + 1) cause zone x a) s)
      else withRaised (raised (s.alerts.seq + 1) cause zone x a) s) := by
  have record : ensureRecord w s = s := by simp [ensureRecord, hq, ha]
  have note : noteRaise w cause zone x s = withRaised (raised (s.alerts.seq + 1) cause zone x a) s := by
    simp [noteRaise, updateFirst, hq, ha, withRaised, raised]
  rw [raiseAlert_eq, record, note, hq]
  simp [ha]

theorem deactivateAlert_of_record (hq : s.alerts.queue = [a]) (ha : a.watch = w) {cause : AlertCause} (hc : Causes.has a.causes cause = true)
    (zone : Zone) (x : Option Int) : deactivateAlert w cause zone x s =
      if Causes.isEmpty (Causes.remove a.causes cause) then
        announce (ownAssert w false (if a.acknowledged
          then { s with alerts := { s.alerts with
            queue := []
            finals := s.alerts.finals ++
              [{ watch := w, sequence := a.sequence, zone := zone, value := if cause = .threshold then x else a.value, frame := a.frame }] } }
          else withRecord (lowered cause zone x a) s))
      else announce (withRecord (lowered cause zone x a) s) := by
  have put : putRecord w (lowered cause zone x a) s = withRecord (lowered cause zone x a) s := by
    simp [putRecord, updateFirst, hq, ha, withRecord]
  rw [deactivateAlert_of_find (r := a) (by simp [hq, ha]) hc, put]
  simp [removeRecord, withRecord, removeFirst, finalOf, lowered, ha]

end

/-! Groups (R114) -/

theorem ownAssert_of_no_group {s : State} {w : Nat} (h : groupOf s.cfg w = none) (joins : Bool) : ownAssert w joins s = s := by
  rw [ownAssert, h]

/-- What the station's own assertion does to the groups does not hang on the rest of the state. -/
theorem ownAssert_of_one {s : State} {c : WatchConfig} (hc : s.cfg.watches = [c]) (hg : s.alerts.groups.length = 8) (joins : Bool) :
    ∃ G A B, OwnAsserts s 0 c joins G A B ∧ ∀ t : State, t.station = s.station → t.alerts.groups = s.alerts.groups →
      t.alerts.ala = s.alerts.ala → t.alerts.alb = s.alerts.alb →
      ownAssert 0 joins t = { t with alerts := { t.alerts with groups := G, ala := A, alb := B } } := by
  have group (t : State) (hs : t.station = s.station) : groupOf t.cfg 0 = c.group := by
    have : t.cfg = s.cfg := by simp only [State.cfg, hs]
    simp [groupOf, this, hc]
  rcases hgr : c.group with _ | g
  · refine ⟨s.alerts.groups, s.alerts.ala, s.alerts.alb, by simp only [OwnAsserts, hgr, and_self], fun t hs h1 h2 h3 => ?_⟩
    rw [ownAssert_of_no_group ((group t hs).trans hgr), ← h1, ← h2, ← h3]
  · obtain ⟨gr, hgr'⟩ : ∃ gr, s.alerts.groups[g.toNat]? = some gr := ⟨_, List.getElem?_eq_getElem (by have := g.isLt; omega)⟩
    let m := (if joins then assertIn else denyIn) s.own.toNat 0 gr.asserters
    let G := s.alerts.groups.set g.toNat { gr with asserters := m, active := decide (gr.quorum ≠ 0 ∧ gr.quorum ≤ m.length) }
    refine ⟨G, G.any (fun g => g.active && g.lineA), G.any (fun g => g.active && g.lineB), ?_, fun t hs h1 _ _ => ?_⟩
    · rw [OwnAsserts, hgr]
      refine ⟨gr, m, hgr', fun x => (find_assertOrDeny joins s.own.toNat (by decide) gr.asserters x).trans ?_, rfl, rfl, rfl⟩
      by_cases hx : x = s.own.toNat
      · rw [if_pos hx, if_pos hx, hx]
        rfl
      · rw [if_neg hx, if_neg hx]
    · have own : t.own = s.own := by simp only [State.own, State.cfg, hs]
      simp only [ownAssert, group t hs, hgr, own]
      rw [changeGroup_of_group (h1.symm ▸ hgr'), h1]

/-! The evaluation of one watch (R86, R91 to R93) -/

section
variable {s : State} {c : WatchConfig} {r : WatchRun}

theorem watchIndices_of_one (h : s.cfg.watches = [c]) : watchIndices s = [0] := by simp [watchIndices, h]

/-- The run-time fields after a value has confirmed a zone at once. -/
def confirmed (c : WatchConfig) (r : WatchRun) (v : Int) : WatchRun := { r with zone := zoneOf c r.zone v, candidate := none, last := some v }

theorem evaluated_of_confirmed (hp : c.persistence = 1) (hr : r.candidate = none) {v : Int} (hz : zoneOf c r.zone v ≠ r.zone) :
    evaluated c r v = confirmed c r v := by
  simp [evaluated, candidateAfter, hz, hr, hp, confirmed]

/-- An update of the one watch's key that confirms a zone. -/
theorem updateNotice_of_one (hw : s.cfg.watches = [c]) (hr : s.watches = [r]) (hb : c.sourceB = none) (hm : c.moment = .onUpdate) {v : Int}
    (hv : freshValue s.table (Key.ix c.sourceA) = some v) (hp : c.persistence = 1) (hn : r.candidate = none) (hz : zoneOf c r.zone v ≠ r.zone) :
    updateNotice [Key.ix c.sourceA] s = reportThreshold 0 c r.zone (zoneOf c r.zone v) v { s with watches := [confirmed c r v] } := by
  have named : onUpdateOf s.cfg [Key.ix c.sourceA] 0 = true := by simp [onUpdateOf, hw, hm, sourcesOf, hb]
  have value : evaluatedValue (freshValue s.table) c = some v := by simp [evaluatedValue, hb, hv]
  have run : setRun 0 (confirmed c r v) s = { s with watches := [confirmed c r v] } := by simp [setRun, updateAt, hr]
  rw [updateNotice, watchIndices_of_one hw, List.filter_cons_of_pos named, List.filter_nil, List.foldl_cons, List.foldl_nil]
  simp only [evaluateWatch, hw, hr, List.getElem?_cons_zero, value, evaluate, evaluated_of_confirmed hp hn hz, run]
  rfl

end

/-! A received value for the key of one watch -/

section
variable {s : State} {src : Addr} {cause : Cause} {it : Item} {e : Entry}

theorem keysHeld_singleton (he : s.table.find (keyIx src it.channel.toNat) = some e) : KeysHeld s src [it] := by
  refine ⟨List.nodup_singleton _, fun x hx => ?_⟩
  rw [List.mem_singleton.mp hx, he]
  rfl

theorem find_batchTable_singleton (he : s.table.find (keyIx src it.channel.toNat) = some e) :
    (batchTable s src cause [it]).find (keyIx src it.channel.toNat) = some (renewedEntry s it cause e) := by
  rw [renewedBy_batchTable (keysHeld_singleton he) cause]
  simp [he]

/-- The three parts of a batch of one item for a key that the table holds (R69). -/
theorem applyBatch_singleton (he : s.table.find (keyIx src it.channel.toNat) = some e) :
    applyBatch src cause [it] s = updateNotice [keyIx src it.channel.toNat]
      (if e.unreachable then reachableNotice (keyIx src it.channel.toNat) { s with table := batchTable s src cause [it] }
        else { s with table := batchTable s src cause [it] }) := by
  have updates : (inChannelOrder [it]).foldl (applyUpdate [keyIx src it.channel.toNat] src cause) s =
      { s with table := batchTable s src cause [it] } :=
    foldl_applyUpdate_of_held _ _ s s.table fun x hx => (keysHeld_singleton he).2 x (mem_inChannelOrder.mp hx)
  have marked : isMarked s.table (keyIx src it.channel.toNat) = e.unreachable := by simp only [isMarked, he]
  simp only [applyBatch, batchKeys_singleton, updates]
  cases hu : e.unreachable
  · simp [marked, hu]
  · simp [marked, hu]

/-- A RESULT of one item that tells nothing to the requester but the end of a hold-off. -/
theorem exec_result_singleton {t : State} (h : FromPeer s src (.result cause [it])) (hc : Cause.inRange cause = true)
    (hs : Cause.cls cause ≠ .sweep) (quiet : RequesterQuiet s) (hp : ∀ x ∈ s.requester.pending, x.target ≠ src)
    (block : ∀ r q n, applyBatch src cause [it] { s with roster := r, requester := q, draws := n } =
      { t with roster := r, requester := q, draws := n }) :
    exec (.rxResult src 31 cause [it]) s = .next { t with
      roster := (heardFrom s src (knownInfo s src)).roster
      requester := { s.requester with holdOffs := endedHoldOffs s src [it] }
      draws := s.draws + 1 } := by
  rw [exec_result_of_not_sweep h hc hs (Nat.le_refl 1) (Nat.le_of_ble_eq_true rfl) quiet block, afterResult, unanswered_of_not_asked hp]

end

/-! A value that confirms a zone (R92, R93) -/

section
variable {s : State} {c : WatchConfig} {old new : Zone} {x : Int}

theorem reportThreshold_of_raise (hz : new ≠ old) (ha : alarming c.crossing new = true) (w : Nat) :
    reportThreshold w c old new x s = raiseAlert w .threshold new (some x) s := by
  rw [reportThreshold, if_neg hz.symm, ha]

theorem reportThreshold_of_clear (hz : new ≠ old) (ho : alarming c.crossing old = true) (ha : alarming c.crossing new = false) (w : Nat) :
    reportThreshold w c old new x s = deactivateAlert w .threshold new (some x) s := by
  rw [reportThreshold, if_neg hz.symm, ha, ho]

end

/-- Settles O32. -/
theorem thresholdCrossingRaisesAlert : Obligations.ThresholdCrossingRaisesAlert := by
  intro s src cause it c r h hm hc hs quiet hp hw hA hB hmo hper hg hr hn hen v z hz
  obtain ⟨e, he, hu⟩ := hen
  refine ⟨batchTable s src cause [it], endedHoldOffs s src [it], renewedBy_batchTable (keysHeld_singleton he) cause,
    holdOffsEnded_endedHoldOffs s src [it], ?_⟩
  intro after
  have key : keyIx src it.channel.toNat = Key.ix c.sourceA := by rw [hA]; rfl
  have inactive (t : State) (ht : t.station = s.station) : announce t = t :=
    announce_of_not_active (by simpa [State.isActive, ht] using hm)
  have ungrouped (t : State) (ht : t.station = s.station) (joins : Bool) : ownAssert 0 joins t = t := by
    refine ownAssert_of_no_group ?_ joins
    have : t.cfg = s.cfg := by simp only [State.cfg, ht]
    simp [groupOf, this, hw, hg]
  have report (u : AlertUnit) (hrep : ∀ t : State, t.station = s.station → t.alerts = s.alerts →
      reportThreshold 0 c r.zone z v t = { t with alerts := u }) :
      exec (.rxResult src 31 cause [it]) s = .next { after with alerts := u } := by
    refine exec_result_singleton (t := { s with table := batchTable s src cause [it], watches := [confirmed c r v], alerts := u })
      h hc hs quiet hp fun ro q n => ?_
    have fresh : freshValue (batchTable s src cause [it]) (Key.ix c.sourceA) = some v := by
      rw [freshValue, ← key, find_batchTable_singleton he]
      rfl
    rw [applyBatch_singleton (s := { s with roster := ro, requester := q, draws := n }) he, hu, key]
    exact (updateNotice_of_one (s := { s with roster := ro, requester := q, draws := n, table := batchTable s src cause [it] })
      hw hr hB hmo fresh hper hn hz).trans (hrep _ rfl rfl)
  refine ⟨fun ha hq hf => report _ fun t ht hta => ?_, fun a ha hq h0 => report _ fun t ht hta => ?_,
    fun a ho ha hq h0 hca => ⟨fun hack => ?_, fun hack => ?_⟩⟩
  · rw [reportThreshold_of_raise hz ha, raiseAlert_of_new (hta ▸ hq) (hta ▸ hf), ungrouped (withRaised _ t) ht, inactive (withRaised _ t) ht, hta]
    simp only [withRaised, hta]
    rfl
  · rw [reportThreshold_of_raise hz ha, raiseAlert_of_record (hta ▸ hq) h0, ungrouped (withRaised _ t) ht, ite_self, inactive (withRaised _ t) ht, hta]
    simp only [withRaised, hta]
    rfl
  · refine report _ fun t ht hta => ?_
    rw [reportThreshold_of_clear hz ho ha, deactivateAlert_of_record (hta ▸ hq) h0 (by simp [hca, Causes.has]), if_pos (by simp [hca]; rfl),
      hack, if_pos rfl, ungrouped, inactive]
    · simp only [hta]
      rfl
    · exact ht
    · exact ht
  · refine report _ fun t ht hta => ?_
    rw [reportThreshold_of_clear hz ho ha, deactivateAlert_of_record (hta ▸ hq) h0 (by simp [hca, Causes.has]), if_pos (by simp [hca]; rfl),
      hack, if_neg (by simp), ungrouped (withRecord _ t) ht, inactive (withRecord _ t) ht]
    simp only [withRecord, hta, lowered, hca, hack, if_true]
    rfl

end Sys2Proof.Machine
end
section
/-! SOURCE_LOST at a station with one watch (R83, R95, R96). -/

namespace Sys2Proof.Machine
open Sys2Proof.Safety

/-! The marks of a watch's sources -/

theorem sourcesOf_eq (c : WatchConfig) : sourcesOf c = watchKeys c := by
  unfold sourcesOf watchKeys
  cases c.sourceB <;> rfl

/-- A source of the watch other than k is marked in the table. -/
abbrev OtherMarked (t : Map Entry) (c : WatchConfig) (k : Nat) : Prop :=
  ∃ j ∈ watchKeys c, j ≠ k ∧ ∃ e, t.find j = some e ∧ e.unreachable = true

theorem isMarked_iff (t : Map Entry) (k : Nat) : isMarked t k = true ↔ ∃ e, t.find k = some e ∧ e.unreachable = true := by
  unfold isMarked
  rcases t.find k with _ | e <;> simp

theorem otherMarked_congr {t t' : Map Entry} {k : Nat} (h : ∀ j, j ≠ k → t'.find j = t.find j) (c : WatchConfig) :
    OtherMarked t' c k ↔ OtherMarked t c k :=
  exists_congr fun j => and_congr_right fun _ => and_congr_right fun hj => by rw [h j hj]

section
variable {s : State} {c : WatchConfig} {r : WatchRun} {k : Nat}

theorem unreachableNotice_of_one (hw : s.cfg.watches = [c]) (hr : s.watches = [r]) (hk : k ∈ watchKeys c) :
    (OtherMarked s.table c k → unreachableNotice k s = s) ∧
    (¬ OtherMarked s.table c k → unreachableNotice k s = raiseAlert 0 .sourceLost r.zone none s) := by
  have marked : (sourcesOf c).any (fun j => j != k && isMarked s.table j) = true ↔ OtherMarked s.table c k := by
    simp [sourcesOf_eq, isMarked_iff]
  have named : (sourcesOf c).contains k = true := by simpa [sourcesOf_eq] using hk
  have notice : unreachableNotice k s = unreachableAt k 0 s := by simp [unreachableNotice, watchIndices_of_one hw]
  rw [notice]
  simp only [unreachableAt, hw, hr, List.getElem?_cons_zero, named, Bool.true_and]
  refine ⟨fun h => if_neg (by simp [marked.mpr h]), fun h => if_pos ?_⟩
  rw [Bool.eq_false_iff.mpr (mt marked.mp h)]
  rfl

theorem reachableNotice_of_one (hw : s.cfg.watches = [c]) (hr : s.watches = [r]) (hk : k ∈ watchKeys c) (hm : isMarked s.table k = false) :
    (OtherMarked s.table c k → reachableNotice k s = s) ∧
    (¬ OtherMarked s.table c k → reachableNotice k s = deactivateAlert 0 .sourceLost r.zone none s) := by
  have marked : sourceLostActive s.table c = true ↔ OtherMarked s.table c k := by
    rw [sourceLostActive, sourcesOf_eq, List.any_eq_true]
    refine exists_congr fun j => and_congr_right fun _ => ⟨fun h => ⟨fun e => ?_, (isMarked_iff _ _).mp h⟩, fun h => (isMarked_iff _ _).mpr h.2⟩
    rw [e, hm] at h
    simp at h
  have named : (sourcesOf c).contains k = true := by simpa [sourcesOf_eq] using hk
  have notice : reachableNotice k s = reachableAt k 0 s := by simp [reachableNotice, watchIndices_of_one hw]
  rw [notice]
  simp only [reachableAt, hw, hr, List.getElem?_cons_zero, named, Bool.true_and]
  refine ⟨fun h => if_neg (by simp [marked.mpr h]), fun h => if_pos ?_⟩
  rw [Bool.eq_false_iff.mpr (mt marked.mp h)]
  rfl

theorem updateNotice_of_onSweep (hw : s.cfg.watches = [c]) (hm : c.moment = .onSweep) (keys : List Nat) : updateNotice keys s = s := by
  have unnamed : ¬ onUpdateOf s.cfg keys 0 = true := by simp [onUpdateOf, hw, hm]
  rw [updateNotice, watchIndices_of_one hw, List.filter_cons_of_neg unnamed]
  rfl

end

/-! Giving up the one key of an entry (R132) -/

theorem setList_twoPow : ∀ c : Fin 8, setList (BitVec.twoPow 8 c.val) = [c.val] := by decide

theorem keysOf_twoPow {k station : Nat} (h : ixStation k = station) : keysOf station (BitVec.twoPow 8 (ixChannel k)) = [k] := by
  have := setList_twoPow ⟨ixChannel k, Nat.mod_lt _ (by decide)⟩
  rw [keysOf, this, ← h]
  simp only [ixStation, ixChannel, List.map_cons, List.map_nil]
  exact congrArg (fun x => [x]) (Nat.div_add_mod' k 8)

/-- The third attempt has failed: what the one key's notice makes of the alert unit, and the rest as at a station without watches. -/
theorem exec_replyTimerExpiry_of_one_key {s : State} {l1 l2 : List PendingEntry} {e : PendingEntry} {k : Nat} {en : Entry} {u : AlertUnit}
    (quiet : RequesterQuiet s) (h : Awaits s l1 e l2) (ha : e.attempts = 3) (hst : e.stage = .sent 0) (hk : ixStation k = e.target.toNat)
    (hch : e.channels = BitVec.twoPow 8 (ixChannel k)) (hf : s.table.find k = some en) (hu : en.unreachable = false)
    (notice : ∀ t : State, t.station = s.station → t.watches = s.watches → t.bus = s.bus → t.alerts = s.alerts →
      t.table = gaveUpTable s e.target.toNat e.channels → unreachableNotice k t = { t with alerts := u }) :
    exec (.replyTimerExpiry e.tag) s = .next { gaveUp s e (l1 ++ l2) with alerts := u } := by
  have keys := keysOf_twoPow hk
  have table : gaveUpTable s e.target.toNat e.channels = s.table.adjust k (fun e => { e with unreachable := true }) := by
    rw [gaveUpTable, hch, keys]
    simp [markTable, hf, hu]
  have last : nextAttempt e s = giveUpEntry e s := if_pos ha.ge
  have given : giveUpEntry e s = { gaveUp s e (l1 ++ l2) with alerts := u } := by
    have mark : markUnreachable { s with requester := { s.requester with pending := l1 ++ l2 } } k =
        { s with requester := { s.requester with pending := l1 ++ l2 }, table := gaveUpTable s e.target.toNat e.channels, alerts := u } := by
      simp only [markUnreachable, hf, hu, table]
      exact notice { s with
        requester := { s.requester with pending := l1 ++ l2 }
        table := s.table.adjust k (fun e => { e with unreachable := true }) } rfl rfl rfl rfl table.symm
    rw [giveUpEntry, removeEntry_of_awaits h, giveUp, gaveUp, gaveUpHoldOffs, hch, keys, List.foldl_cons, List.foldl_nil, mark, ← hch]
    rfl
  rw [exec_attemptTimer h (.inl ⟨rfl, hst⟩), last, given]
  exact congrArg Host.Outcome.next (pump_of_quiet ⟨quiet.1, fun x hx => quiet.2 x (mem_of_awaits h hx)⟩)

theorem sameGroups {s t : State} (h : t.alerts = s.alerts) :
    t.alerts.groups = s.alerts.groups ∧ t.alerts.ala = s.alerts.ala ∧ t.alerts.alb = s.alerts.alb := by
  rw [h]
  exact ⟨rfl, rfl, rfl⟩

theorem find_gaveUpTable_of_ne {s : State} {station k j : Nat} (h : ixStation k = station) (hj : j ≠ k) :
    (gaveUpTable s station (BitVec.twoPow 8 (ixChannel k))).find j = s.table.find j := by
  rw [gaveUpTable, keysOf_twoPow h, find_foldl_markTable, if_neg (by simpa using hj)]

section
variable {s : State} {c : WatchConfig} {r : WatchRun} {k : Nat} {en : Entry}

/-- REPLY_TIMER_EXPIRY after the third attempt for one source of the watch (R95). -/
theorem sourceLost_raised (hw : s.cfg.watches = [c]) (hr : s.watches = [r]) (hg : s.alerts.groups.length = 8) (quiet : RequesterQuiet s)
    (full : 2 ≤ held .alertUnit s.bus.queue) (hf : s.table.find k = some en) (hk : k ∈ watchKeys c) {l1 l2 : List PendingEntry}
    {e : PendingEntry} (h : Awaits s l1 e l2) (ha : e.attempts = 3) (hst : e.stage = .sent 0) (hke : ixStation k = e.target.toNat)
    (hch : e.channels = BitVec.twoPow 8 (ixChannel k)) (hu : en.unreachable = false) :
    (OtherMarked s.table c k → exec (.replyTimerExpiry e.tag) s = .next (gaveUp s e (l1 ++ l2))) ∧
    (¬ OtherMarked s.table c k → ∃ G A B, OwnAsserts s 0 c true G A B ∧
      (s.alerts.queue = [] → s.alerts.finals = [] → exec (.replyTimerExpiry e.tag) s = .next { gaveUp s e (l1 ++ l2) with
        alerts := { s.alerts with
          seq := s.alerts.seq + 1, groups := G, ala := A, alb := B
          queue := [raised (s.alerts.seq + 1) .sourceLost r.zone none (AlertRecord.blank 0)] } }) ∧
      ∀ a, s.alerts.queue = [a] → a.watch = 0 →
        (Causes.isEmpty a.causes = true → exec (.replyTimerExpiry e.tag) s = .next { gaveUp s e (l1 ++ l2) with
          alerts := { s.alerts with
            seq := s.alerts.seq + 1, groups := G, ala := A, alb := B
            queue := [raised (s.alerts.seq + 1) .sourceLost r.zone none a] } }) ∧
        (Causes.isEmpty a.causes = false → exec (.replyTimerExpiry e.tag) s = .next { gaveUp s e (l1 ++ l2) with
          alerts := { s.alerts with
            seq := s.alerts.seq + 1
            queue := [raised (s.alerts.seq + 1) .sourceLost r.zone none a] } })) := by
  have others (t : State) (ht : t.table = gaveUpTable s e.target.toNat e.channels) : OtherMarked t.table c k ↔ OtherMarked s.table c k := by
    rw [ht, hch]
    exact otherMarked_congr (fun j hj => find_gaveUpTable_of_ne hke hj) c
  have told (t : State) (ht : t.station = s.station) (hwt : t.watches = s.watches) :=
    unreachableNotice_of_one (s := t) (by rw [cfg_of_station ht, hw]) (hwt ▸ hr) hk
  have quietly (t : State) (hb : t.bus = s.bus) : announce t = t := announce_of_full (hb ▸ full)
  have run {u : AlertUnit} := exec_replyTimerExpiry_of_one_key (u := u) quiet h ha hst hke hch hf hu
  refine ⟨fun ho => run (u := s.alerts) fun t ht hwt _ hat htt => ?_, fun ho => ?_⟩
  · rw [(told t ht hwt).1 ((others t htt).mpr ho), ← hat]
  · obtain ⟨G, A, B, asserts, join⟩ := ownAssert_of_one hw hg true
    refine ⟨G, A, B, asserts, fun hq hfi => run fun t ht hwt hbt hat htt => ?_, fun a hq h0 =>
      ⟨fun hc => run fun t ht hwt hbt hat htt => ?_, fun hc => run fun t ht hwt hbt hat htt => ?_⟩⟩
    · obtain ⟨hgr, hala, halb⟩ := sameGroups hat
      rw [(told t ht hwt).2 (mt (others t htt).mp ho), raiseAlert_of_new (hat ▸ hq) (hat ▸ hfi), hat,
        join (withRaised _ t) ht hgr hala halb, quietly]
      · simp only [withRaised, hat]
      · exact hbt
    · obtain ⟨hgr, hala, halb⟩ := sameGroups hat
      rw [(told t ht hwt).2 (mt (others t htt).mp ho), raiseAlert_of_record (hat ▸ hq) h0, if_pos hc, hat,
        join (withRaised _ t) ht hgr hala halb, quietly]
      · simp only [withRaised, hat]
      · exact hbt
    · rw [(told t ht hwt).2 (mt (others t htt).mp ho), raiseAlert_of_record (hat ▸ hq) h0, if_neg (by simp [hc]), hat,
        quietly (withRaised _ t) hbt]
      simp only [withRaised, hat]

/-- RX_RESULT for a source of the watch that was marked (R96). -/
theorem sourceLost_cleared (hw : s.cfg.watches = [c]) (hr : s.watches = [r]) (hg : s.alerts.groups.length = 8) (quiet : RequesterQuiet s)
    (full : 2 ≤ held .alertUnit s.bus.queue) {src : Addr} {cause : Cause} {it : Item} (hf : s.table.find (keyIx src it.channel.toNat) = some en)
    (hk : keyIx src it.channel.toNat ∈ watchKeys c) (h : FromPeer s src (.result cause [it])) (hc : Cause.inRange cause = true)
    (hs : Cause.cls cause ≠ .sweep) (hp : ∀ x ∈ s.requester.pending, x.target ≠ src) (hm : c.moment = .onSweep)
    (hu : en.unreachable = true) {t : State}
    (ht : t = { s with
      table := batchTable s src cause [it]
      roster := (heardFrom s src (knownInfo s src)).roster
      requester := { s.requester with holdOffs := endedHoldOffs s src [it] }
      draws := s.draws + 1 }) :
    (OtherMarked s.table c (keyIx src it.channel.toNat) → exec (.rxResult src 31 cause [it]) s = .next t) ∧
    (¬ OtherMarked s.table c (keyIx src it.channel.toNat) → ∀ a, s.alerts.queue = [a] → a.watch = 0 → a.causes.sourceLost = true →
      (a.causes.threshold = true → exec (.rxResult src 31 cause [it]) s =
        .next { t with alerts := { s.alerts with queue := [lowered .sourceLost r.zone none a] } }) ∧
      (a.causes.threshold = false → ∃ G A B, OwnAsserts s 0 c false G A B ∧ exec (.rxResult src 31 cause [it]) s = .next { t with
        alerts := { s.alerts with
          groups := G, ala := A, alb := B
          queue := if a.acknowledged then [] else [lowered .sourceLost r.zone none a]
          finals := if a.acknowledged
            then s.alerts.finals ++ [{ watch := 0, sequence := a.sequence, zone := r.zone, value := a.value, frame := a.frame }]
            else s.alerts.finals } })) := by
  have run (u : AlertUnit) (notice : ∀ t : State, t.station = s.station → t.watches = s.watches → t.bus = s.bus → t.alerts = s.alerts →
      t.table = batchTable s src cause [it] → reachableNotice (keyIx src it.channel.toNat) t = { t with alerts := u }) :
      exec (.rxResult src 31 cause [it]) s = .next { t with alerts := u } := by
    subst ht
    refine exec_result_singleton (t := { s with table := batchTable s src cause [it], alerts := u }) h hc hs quiet hp fun ro q n => ?_
    rw [applyBatch_singleton (s := { s with roster := ro, requester := q, draws := n }) hf, hu, if_pos rfl]
    refine (congrArg (updateNotice _) (notice { s with
      roster := ro, requester := q, draws := n, table := batchTable s src cause [it] } rfl rfl rfl rfl rfl)).trans ?_
    exact updateNotice_of_onSweep (s := { s with
      roster := ro, requester := q, draws := n, table := batchTable s src cause [it], alerts := u }) hw hm _
  have unmarked : isMarked (batchTable s src cause [it]) (keyIx src it.channel.toNat) = false := by
    rw [isMarked, find_batchTable_singleton hf]
    rfl
  have renewed : OtherMarked (batchTable s src cause [it]) c (keyIx src it.channel.toNat) ↔ OtherMarked s.table c (keyIx src it.channel.toNat) := by
    refine otherMarked_congr (fun j hj => ?_) c
    rw [renewedBy_batchTable (keysHeld_singleton hf) cause]
    simp [hj.symm]
  have told (t : State) (ht : t.station = s.station) (hwt : t.watches = s.watches) (htt : t.table = batchTable s src cause [it]) :=
    reachableNotice_of_one (s := t) (by rw [cfg_of_station ht, hw]) (hwt ▸ hr) hk (htt ▸ unmarked)
  have quietly (t : State) (hb : t.bus = s.bus) : announce t = t := announce_of_full (hb ▸ full)
  refine ⟨fun ho => ?_, fun ho a hq h0 hl => ⟨fun hth => run _ fun t ht hwt hbt hat htt => ?_, fun hth => ?_⟩⟩
  · have e := run s.alerts fun t ht hwt _ hat htt => by rw [(told t ht hwt htt).1 (htt ▸ renewed.mpr ho), ← hat]
    rw [e, ht]
  · rw [(told t ht hwt htt).2 (htt ▸ mt renewed.mp ho), deactivateAlert_of_record (cause := .sourceLost) (hat ▸ hq) h0 hl,
      if_neg (by simp [Causes.remove, Causes.isEmpty, hth]),
      quietly (withRecord _ t) hbt]
    simp only [withRecord, hat]
  · obtain ⟨G, A, B, asserts, leave⟩ := ownAssert_of_one hw hg false
    refine ⟨G, A, B, asserts, run _ fun t ht hwt hbt hat htt => ?_⟩
    obtain ⟨hgr, hala, halb⟩ := sameGroups hat
    rw [(told t ht hwt htt).2 (htt ▸ mt renewed.mp ho), deactivateAlert_of_record (cause := .sourceLost) (hat ▸ hq) h0 hl,
      if_pos (by simp [Causes.remove, Causes.isEmpty, hth])]
    rcases a.acknowledged
    · rw [if_neg (by simp), leave (withRecord _ t) ht hgr hala halb, quietly]
      · simp only [withRecord, hat]
        rfl
      · exact hbt
    · rw [if_pos rfl, leave, quietly]
      · simp only [hat]
        rfl
      · exact hbt
      · exact ht
      · exact hgr
      · exact hala
      · exact halb

end

/-- Settles O60. -/
theorem sourceLostFollowsMarks : Obligations.SourceLostFollowsMarks := by
  intro s c r k en hw hr hg quiet full hf hk others inert
  refine ⟨fun l1 e l2 h ha hst hke hch hu => ?_, fun src cause it h hc hs hp hm hkey hu => ?_⟩
  · obtain ⟨marked, alone⟩ := sourceLost_raised hw hr hg quiet full hf hk h ha hst hke hch hu
    refine ⟨_, _, givenUp_gaveUp s e.target e.channels, ?_⟩
    intro gone
    refine ⟨marked, fun ho hq hfi => ?_, fun ho a hq h0 => ?_⟩
    · obtain ⟨G, A, B, asserts, new, -⟩ := alone ho
      exact ⟨G, A, B, asserts, new hq hfi⟩
    · obtain ⟨G, A, B, asserts, -, old⟩ := alone ho
      obtain ⟨empty, active⟩ := old a hq h0
      by_cases hi : a.causes = inert
      · exact ⟨G, A, B, fun _ => asserts, fun hn => absurd hi hn, empty ((causes_isEmpty_iff _).mpr hi)⟩
      · exact ⟨_, _, _, fun h => absurd h hi, fun _ => ⟨rfl, rfl, rfl⟩, active (Bool.eq_false_iff.mpr (mt (causes_isEmpty_iff _).mp hi))⟩
  · subst hkey
    obtain ⟨marked, alone⟩ := sourceLost_cleared hw hr hg quiet full hf hk h hc hs hp hm hu rfl
    exact ⟨_, _, renewedBy_batchTable (keysHeld_singleton hf) cause, holdOffsEnded_endedHoldOffs s src [it], marked, alone⟩

end Sys2Proof.Machine
end
section
/-! Frames heard from a peer (R139, R140): the slot, the keys of a peer that was LOST, and a restart. -/

namespace Sys2Proof.Machine
open Sys2Proof.Safety

/-! Keys wanted and asked for (R122, R126) -/

/-- A channel of a station is wanted, or asked for by an entry of the pending table. -/
abbrev Covered (t : State) (a : Addr) (c : Nat) : Prop :=
  (∃ w, t.requester.wanted.find a.toNat = some w ∧ setHas w c = true) ∨ ∃ e ∈ t.requester.pending, e.target = a ∧ setHas e.channels c = true

section
variable {s : State} {a : Addr} {c k : Nat}

theorem asksFor_iff : asksFor s.requester a.toNat c = true ↔ ∃ e ∈ s.requester.pending, e.target = a ∧ setHas e.channels c = true := by
  simp [asksFor, BitVec.toNat_inj]

theorem ixChannel_lt (k : Nat) : ixChannel k < 8 := Nat.mod_lt k (by decide)

theorem covered_wantKey_self (h : ixStation k = a.toNat) : Covered (wantKey s k) a (ixChannel k) := by
  unfold wantKey
  rw [h]
  by_cases hk : asksFor s.requester a.toNat (ixChannel k) = true
  · rw [if_pos hk]
    exact .inr (asksFor_iff.mp hk)
  · rw [if_neg hk]
    refine .inl ⟨_, Map.find_set_self _ _ _, ?_⟩
    rw [setHas_setInsert _ _ _ (ixChannel_lt k)]
    simp

theorem covered_wantKey (h : Covered s a c) : Covered (wantKey s k) a c := by
  unfold wantKey
  by_cases hk : asksFor s.requester (ixStation k) (ixChannel k) = true
  · rwa [if_pos hk]
  · rw [if_neg hk]
    refine h.imp_left fun ⟨w, hw, hc⟩ => ?_
    simp only [Map.find_set]
    by_cases ha : a.toNat = ixStation k
    · rw [if_pos ha, ← ha, hw]
      refine ⟨_, rfl, ?_⟩
      rw [Option.getD_some, setHas_setInsert _ _ _ (ixChannel_lt k), hc, Bool.true_or]
    · rw [if_neg ha]
      exact ⟨w, hw, hc⟩

theorem covered_issueOne (h : Covered s a c) : Covered (issueOne s) a c := by
  unfold issueOne
  split
  · split
    · exact h
    next b _ =>
      rcases h with ⟨w, hw, hc⟩ | ⟨e, he, ht, hc⟩
      · by_cases hb : a.toNat = b
        · refine .inr ⟨newEntry s b, List.mem_append_right _ List.mem_cons_self, ?_, ?_⟩
          · rw [newEntry, ← hb]
            exact BitVec.ofNat_toNat 5 a |>.trans (BitVec.setWidth_eq a)
          · rw [newEntry, ← hb, hw]
            exact hc
        · refine .inl ⟨w, ?_, hc⟩
          rw [Map.find_erase, if_neg hb, hw]
      · exact .inr ⟨e, List.mem_append_left _ he, ht, hc⟩
  · exact h

theorem covered_sendDue (h : Covered s a c) : Covered (sendDue s) a c := by
  unfold sendDue
  split
  · split
    · exact h
    · refine h.imp_right fun ⟨e, he, ht, hc⟩ => ?_
      have same := map_updateFirst (p := isDueEntry) (f := fun e => { e with stage := .queued }) (g := fun e => (e.target, e.channels))
        (fun _ _ => rfl) s.requester.pending
      obtain ⟨x, hx, hxe⟩ := List.mem_map.mp (same ▸ List.mem_map_of_mem (f := fun e : PendingEntry => (e.target, e.channels)) he)
      obtain ⟨h1, h2⟩ := Prod.mk.inj hxe
      exact ⟨x, hx, h1.trans ht, h2 ▸ hc⟩
  · exact h

theorem covered_pump (h : Covered s a c) : Covered (pump s) a c :=
  covered_sendDue (covered_issueOne (covered_issueOne (covered_issueOne (covered_issueOne h))))

/-! What taking keys and looking for candidates leave alone -/

/-- The roster, the hold-offs, the value table and the alert unit as they were. -/
abbrev SameBesideWanted (s t : State) : Prop :=
  t.roster = s.roster ∧ t.requester.holdOffs = s.requester.holdOffs ∧ t.table = s.table ∧ t.alerts = s.alerts

theorem sameBesideWanted_pump (s : State) : SameBesideWanted s (pump s) := by
  have issue (s : State) : (issueOne s).requester.holdOffs = s.requester.holdOffs := by
    unfold issueOne
    split <;> [(split <;> rfl); rfl]
  have send (s : State) : (sendDue s).requester.holdOffs = s.requester.holdOffs := by
    unfold sendDue
    split <;> [(split <;> rfl); rfl]
  have holdOffs : (pump s).requester.holdOffs = s.requester.holdOffs := by
    rw [pump, send, issue, issue, issue, issue]
  exact ⟨by simp, holdOffs, by simp, by simp⟩

theorem sameBesideWanted_wantKey (s : State) (k : Nat) : SameBesideWanted s (wantKey s k) := by
  have holdOffs : (wantKey s k).requester.holdOffs = s.requester.holdOffs := by
    unfold wantKey
    split <;> rfl
  exact ⟨by simp, holdOffs, by simp, by simp⟩

theorem SameBesideWanted.trans {s t u : State} (h : SameBesideWanted s t) (h' : SameBesideWanted t u) : SameBesideWanted s u :=
  ⟨h'.1.trans h.1, h'.2.1.trans h.2.1, h'.2.2.1.trans h.2.2.1, h'.2.2.2.trans h.2.2.2⟩

/-- Keys of a station that is not LOST are taken one after another, with a look for candidates between them or not: each is covered. -/
theorem foldl_takes {step : State → Nat → State} (station : holdsLost s a.toNat = false) {keys : List Nat}
    (hk : ∀ k ∈ keys, ixStation k = a.toNat)
    (same : ∀ t k, holdsLost t a.toNat = false → ixStation k = a.toNat → SameBesideWanted t (step t k))
    (keeps : ∀ t k c, holdsLost t a.toNat = false → ixStation k = a.toNat → Covered t a c → Covered (step t k) a c)
    (covers : ∀ t k, holdsLost t a.toNat = false → ixStation k = a.toNat → Covered (step t k) a (ixChannel k)) :
    SameBesideWanted s (keys.foldl step s) ∧ (∀ c, Covered s a c → Covered (keys.foldl step s) a c) ∧
      ∀ k ∈ keys, Covered (keys.foldl step s) a (ixChannel k) := by
  induction keys generalizing s with
  | nil => exact ⟨⟨rfl, rfl, rfl, rfl⟩, fun _ h => h, by simp⟩
  | cons k keys ih =>
    obtain ⟨hk0, hks⟩ := List.forall_mem_cons.mp hk
    have first := same s k station hk0
    have still : holdsLost (step s k) a.toNat = false := by simpa only [holdsLost, first.1] using station
    obtain ⟨h1, h2, h3⟩ := ih still hks
    refine ⟨first.trans h1, fun c hc => h2 c (keeps s k c station hk0 hc), fun j hj => ?_⟩
    rcases List.mem_cons.mp hj with rfl | hj
    · exact h2 _ (covers s j station hk0)
    · exact h3 j hj

theorem takeKey_of_not_lost {k : Nat} (h : holdsLost s a.toNat = false) (hk : ixStation k = a.toNat) : takeKey s k = wantKey s k := by
  rw [takeKey, hk, h, if_neg (by simp)]

theorem takeNotices_induct {P : State → Prop} {take : State → Nat → State} {keys : List Nat}
    (once : P (pump (keys.foldl take { s with draws := s.draws + 1 })))
    (each : P (pump (keys.foldl (fun s k => pump (take s k)) { s with draws := s.draws + 1 }))) : P (takeNotices take keys s) :=
  settle_induct once fun _ hr => List.mem_singleton.mp hr ▸ each

/-- The notices of a peer that is not LOST (R122, R123). -/
theorem takeNotices_takes (station : holdsLost s a.toNat = false) {keys : List Nat} (hk : ∀ k ∈ keys, ixStation k = a.toNat) :
    SameBesideWanted s (takeNotices takeKey keys s) ∧ ∀ k ∈ keys, Covered (takeNotices takeKey keys s) a (ixChannel k) := by
  have taken (t : State) (k : Nat) (ht : holdsLost t a.toNat = false) (hk : ixStation k = a.toNat) := takeKey_of_not_lost ht hk
  refine takeNotices_induct (P := fun t => SameBesideWanted s t ∧ ∀ k ∈ keys, Covered t a (ixChannel k)) ?_ ?_
  · obtain ⟨h1, -, h3⟩ := foldl_takes (s := { s with draws := s.draws + 1 }) (step := takeKey) station hk
      (fun t k ht hk => taken t k ht hk ▸ sameBesideWanted_wantKey t k) (fun t k c ht hk hc => taken t k ht hk ▸ covered_wantKey hc)
      (fun t k ht hk => taken t k ht hk ▸ covered_wantKey_self hk)
    exact ⟨h1.trans (sameBesideWanted_pump _), fun k hk => covered_pump (h3 k hk)⟩
  · obtain ⟨h1, -, h3⟩ := foldl_takes (s := { s with draws := s.draws + 1 }) (step := fun s k => pump (takeKey s k)) station hk
      (fun t k ht hk => taken t k ht hk ▸ (sameBesideWanted_wantKey t k).trans (sameBesideWanted_pump _))
      (fun t k c ht hk hc => taken t k ht hk ▸ covered_pump (covered_wantKey hc))
      (fun t k ht hk => taken t k ht hk ▸ covered_pump (covered_wantKey_self hk))
    exact ⟨h1.trans (sameBesideWanted_pump _), fun k hk => covered_pump (h3 k hk)⟩

end

/-! A peer that was LOST (R123, R139) -/

theorem Map.find_keep {α : Type} (p : Nat → Bool) (m : Map α) (k : Nat) : (m.keep p).find k = if p k then m.find k else none := by
  induction m with
  | nil => simp [Map.keep, Map.find]
  | cons q m ih =>
    obtain ⟨j, v⟩ := q
    simp only [Map.keep] at ih ⊢
    by_cases hj : p j = true
    · rw [List.filter_cons, if_pos hj, Map.find, Map.find, ih]
      by_cases hk : j = k
      · simp [← hk, hj]
      · simp [hk]
    · rw [List.filter_cons, if_neg hj, Map.find, ih]
      by_cases hk : j = k
      · simp [← hk, hj]
      · simp [hk]

/-- "s PRESENT after LOST" at the requester (R123). -/
theorem presentAfterLost_spec {s : State} {a : Addr} (station : holdsLost s a.toNat = false) {t : State} (ht : presentAfterLost a.toNat s = t) :
    t.roster = s.roster ∧ t.table = s.table ∧ t.alerts = s.alerts ∧
    (∀ k, t.requester.holdOffs.find k = if ixStation k = a.toNat then none else s.requester.holdOffs.find k) ∧
    ∀ k, ixStation k = a.toNat → (s.requester.holdOffs.find k).isSome = true → Covered t a (ixChannel k) := by
  let keys := (s.requester.holdOffs.keep (fun k => ixStation k == a.toNat)).keys
  have perm := freeOrder_perm s.draws keys
  have mem (k : Nat) : k ∈ freeOrder s.draws keys ↔ ixStation k = a.toNat ∧ (s.requester.holdOffs.find k).isSome = true := by
    rw [perm.mem_iff, ← Map.isSome_find_iff, Map.find_keep]
    by_cases hk : ixStation k = a.toNat <;> simp [hk]
  let ended : State := { s with
    draws := s.draws + keys.length
    requester := { s.requester with holdOffs := s.requester.holdOffs.keep (fun k => ixStation k != a.toNat) } }
  obtain ⟨⟨h1, h2, h3, h4⟩, h5⟩ := takeNotices_takes (s := ended) station (keys := freeOrder s.draws keys) fun k hk => ((mem k).mp hk).1
  have taken : t = takeNotices takeKey (freeOrder s.draws keys) ended := ht.symm.trans rfl
  rw [← taken] at h1 h2 h3 h4 h5
  refine ⟨h1, h3, h4, fun k => ?_, fun k hk hs => h5 k ((mem k).mpr ⟨hk, hs⟩)⟩
  refine (congrArg (fun m => Map.find m k) h2).trans ?_
  rw [Map.find_keep]
  by_cases hk : ixStation k = a.toNat <;> simp [hk]

/-! Frames heard (R139, R140, R158) -/

section
variable {s : State} {f : Frame}

theorem not_presence_of_directed (hw : Frame.wellFormed f = true) (hd : f.dst ≠ 31) (p : Presence) : f.body ≠ .presence p := by
  intro hb
  obtain ⟨-, -, hdst, -⟩ := (wellFormed_iff f).mp hw
  rw [hb] at hdst
  exact hd hdst

theorem carriesJoining_of_not_presence {body : Body} (h : ∀ p, body ≠ .presence p) : carriesJoining body = false := by
  cases body with
  | presence p => exact absurd rfl (h p)
  | _ => rfl

theorem infoAfter_of_not_presence {body : Body} (h : ∀ p, body ≠ .presence p) (src : Addr) :
    infoAfter (s.roster.peers.find src.toNat) body = knownInfo s src := by
  cases body with
  | presence p => exact absurd rfl (h p)
  | _ => rfl

/-- A frame to another station reaches the roster alone (R158). -/
theorem receive_of_other (h : Reaches s f.src f.body) (hw : Frame.wellFormed f = true) (h31 : f.dst ≠ 31) (ho : f.dst ≠ s.own) :
    receive f s = hear f.src f.body s := by
  have hr : hears (Frame.key f) s = true :=
    Bool.and_eq_true_iff.mpr ⟨receives_of_works h.1, List.all_eq_true.mpr fun q hq => decide_eq_true (h.2.2.2 q hq)⟩
  have hk : keptByFilter f s = false := Bool.or_eq_false_iff.mpr ⟨beq_eq_false_iff_ne.mpr h31, beq_eq_false_iff_ne.mpr ho⟩
  simp [receive, hr, hw, h.1, h.2.2.1, takeValid, hk]

/-- A PRESENCE is for the roster alone (R159). -/
theorem receive_presence {src : Addr} {p : Presence} (h : Reaches s src (.presence p)) (hp : p.alerts.toNat ≤ 16) :
    receive { src := src, dst := 31, body := .presence p } s = hear src (.presence p) { s with draws := s.draws + 1 } := by
  have hw : Frame.wellFormed { src := src, dst := 31, body := .presence p } = true :=
    (wellFormed_iff _).mpr ⟨rfl, h.2.1, rfl, decide_eq_true hp⟩
  rw [receive_of_reaches h hw (.inl rfl), dispatchRequester_eq_id (by simp)]
  exact anyOrder_id_induct (P := fun u => u = _) rfl rfl rfl

/-- A frame from a LOST peer that has not restarted. -/
theorem hear_of_lost {src : Addr} {body : Body} (hl : holdsLost s src.toNat = true) (hj : carriesJoining body = false) :
    hear src body s = presentAfterLost src.toNat { s with roster := { s.roster with
      peers := s.roster.peers.set src.toNat (heardPeer s.time (infoAfter (s.roster.peers.find src.toNat) body)) } } := by
  simp [hear, hl, hj]

theorem holdsLost_heard {src : Addr} {info : Option Presence} :
    holdsLost { s with roster := { s.roster with peers := s.roster.peers.set src.toNat (heardPeer s.time info) } } src.toNat = false := by
  simp [holdsLost, heardPeer]

end

/-- Settles O36. -/
theorem presenceUpdatesSlot : Obligations.PresenceUpdatesSlot := by
  refine ⟨fun s src p h hp ha => ?_, fun s c f hc hw h31 ho h => ?_, fun s c f info hc hw hcase h hl => ?_, fun s a p hw hf hq => ?_⟩
  · refine congrArg Host.Outcome.next ((receive_presence h.1 hp).trans ?_)
    rw [hear_of_fromPeer (s := { s with draws := s.draws + 1 }) h.2 _ (by simp [carriesJoining, ha])]
    simp only [infoAfter, heardPeer_eq]
    rfl
  · have hn := not_presence_of_directed hw h31
    rw [exec_of_frame hc, receive_of_other h.1 hw h31 ho, hear_of_fromPeer h.2 _ (carriesJoining_of_not_presence hn),
      infoAfter_of_not_presence hn, heardPeer_eq]
    rfl
  · obtain ⟨n, hear_eq, hj, hi⟩ : ∃ n, receive f s = hear f.src f.body { s with draws := n } ∧ carriesJoining f.body = false ∧
        infoAfter (s.roster.peers.find f.src.toNat) f.body = info := by
      rcases hcase with ⟨h31, ho, rfl⟩ | ⟨p, hb, ha, rfl⟩
      · have hn := not_presence_of_directed hw h31
        exact ⟨s.draws, receive_of_other h hw h31 ho, carriesJoining_of_not_presence hn, infoAfter_of_not_presence hn _⟩
      · obtain ⟨src, dst, body⟩ := f
        obtain rfl : body = .presence p := hb
        obtain ⟨-, -, hdst, hal⟩ := (wellFormed_iff _).mp hw
        obtain rfl : dst = 31 := hdst
        exact ⟨s.draws + 1, receive_presence h (of_decide_eq_true hal), by simp [carriesJoining, ha], rfl⟩
    have frame := hear_frame f.src f.body { s with draws := n }
    obtain ⟨hst, hti, -, -, hco, hsw, hwa, hqu, hcn, hpe⟩ := frame
    obtain ⟨hro, hta, hal, hho, hcov⟩ := presentAfterLost_spec
      (holdsLost_heard (s := { s with draws := n })) (hear_of_lost (s := { s with draws := n }) hl hj).symm
    refine ⟨_, (exec_of_frame hc).trans (congrArg Host.Outcome.next hear_eq), ?_, hho, hcov, hta, hsw, hwa, hal, hco, hqu, hcn, hst, hti, hpe⟩
    rw [hro, hi, heardPeer_eq]
    rfl
  · refine congrArg Host.Outcome.next ?_
    simp only [silentExpiry, hf, hq, hw]
    rfl

end Sys2Proof.Machine
end
section
/-! A peer that has restarted (R110, R134, R140). -/

namespace Sys2Proof.Machine
open Sys2Proof.Safety

section
variable {s : State} {a : Nat}

/-- The groups without a peer (R110, R116). -/
def groupsWithout (a : Nat) (groups : List Group) : List Group :=
  groups.map (fun g => { g with
    asserters := g.asserters.filter (fun x => x.1 != a)
    active := decide (g.quorum ≠ 0 ∧ g.quorum ≤ (g.asserters.filter (fun x => x.1 != a)).length) })

/-- The records to be announced to a peer that has restarted (R110). -/
def announcedAgain (queue : List AlertRecord) : List AlertRecord :=
  queue.map (fun r => if r.causes = { threshold := false, sourceLost := false } then r else { r with announce := true })

theorem forgetAsserter_eq (a : Nat) (s : State) : forgetAsserter a s = { s with alerts := { s.alerts with
    groups := groupsWithout a s.alerts.groups
    ala := (groupsWithout a s.alerts.groups).any (fun g => g.active && g.lineA)
    alb := (groupsWithout a s.alerts.groups).any (fun g => g.active && g.lineB) } } := by
  simp only [forgetAsserter, recompute_eq]
  rfl

theorem markAnnounce_of_active (s : State) : markAnnounce (fun r => !Causes.isEmpty r.causes) s =
    { s with alerts := { s.alerts with queue := announcedAgain s.alerts.queue } } := by
  have mark (r : AlertRecord) : (if (!Causes.isEmpty r.causes) = true then { r with announce := true } else r) =
      if r.causes = { threshold := false, sourceLost := false } then r else { r with announce := true } := by
    by_cases hc : r.causes = { threshold := false, sourceLost := false }
    · rw [if_pos hc, if_neg (by simp [(causes_isEmpty_iff _).mpr hc])]
    · rw [if_neg hc, if_pos (by simp [Bool.eq_false_iff.mpr (mt (causes_isEmpty_iff _).mp hc)])]
  simp only [markAnnounce, mark]
  rfl

/-- The alert unit after a peer's restart, but for the frames it forms. -/
def toldRestart (a : Nat) (s : State) : State :=
  { s with alerts := { s.alerts with
    groups := groupsWithout a s.alerts.groups
    ala := (groupsWithout a s.alerts.groups).any (fun g => g.active && g.lineA)
    alb := (groupsWithout a s.alerts.groups).any (fun g => g.active && g.lineB)
    queue := announcedAgain s.alerts.queue } }

theorem peerRestartedAlerts_eq (a : Nat) (s : State) : peerRestartedAlerts a s = announce (toldRestart a s) := by
  rw [peerRestartedAlerts, forgetAsserter_eq, markAnnounce_of_active]
  rfl

theorem requesterRestarted_of_none (h : ∀ e ∈ s.requester.pending, e.target.toNat ≠ a) : requesterRestarted a s = s := by
  have : s.requester.pending.find? (fun e => e.target.toNat == a) = none := List.find?_eq_none.mpr fun e he => by simp [h e he]
  rw [requesterRestarted, this]

theorem requesterRestarted_of_awaits {l1 l2 : List PendingEntry} {e : PendingEntry} (h : Awaits s l1 e l2) (ht : e.target.toNat = a)
    (h1 : ∀ x ∈ l1, x.target.toNat ≠ a) (hd : e.stage ≠ .due) (hq : e.stage ≠ .queued) : requesterRestarted a s = pump (nextAttempt e s) := by
  have found : s.requester.pending.find? (fun e => e.target.toNat == a) = some e := by
    rw [h.1]
    exact find?_of_split l2 (fun x hx => by simp [h1 x hx]) (by simp [ht])
  simp only [requesterRestarted, found]
  rcases hs : e.stage with _ | _ | t | t
  · exact absurd hs hd
  · exact absurd hs hq
  · rfl
  · rfl

theorem held_requester_announce (s : State) : held .requester (announce s).bus.queue = held .requester s.bus.queue := by
  have one (s : State) : held .requester (announceOne s).bus.queue = held .requester s.bus.queue := by
    unfold announceOne
    split
    · split
      · rw [held_enqueue]
        rfl
      · split
        · rw [held_enqueue]
          rfl
        · rfl
    · rfl
  rw [announce, one, one]

/-- The next attempt of an entry, at once where the quota and the station let it (R127, R134). -/
theorem requester_nextAttempt {l1 l2 : List PendingEntry} {e : PendingEntry} (h : Awaits s l1 e l2) (quiet : RequesterQuiet s)
    (ha : e.attempts < 3) : (pump (nextAttempt e s)).requester = { s.requester with
      pending := l1 ++ l2 ++ [{ e with
        attempts := e.attempts + 1
        stage := if s.station.mode = .active ∧ held .requester s.bus.queue = 0 then .queued else .due
        duplicateUsed := false }] } := by
  by_cases hm : s.station.mode = .active ∧ held .requester s.bus.queue = 0
  · rw [pump_nextAttempt_of_free h quiet ha hm.1 hm.2, if_pos hm]
    rfl
  · rw [pump_nextAttempt_of_full h quiet ha, if_neg hm]
    · rfl
    · rcases Classical.em (s.station.mode = .active) with hact | hact
      · exact .inr (Nat.one_le_iff_ne_zero.mpr fun h0 => hm ⟨hact, h0⟩)
      · exact .inl hact

theorem roster_nextAttempt (e : PendingEntry) (s : State) : (pump (nextAttempt e s)).roster = s.roster ∧
    (pump (nextAttempt e s)).sweeps = s.sweeps ∧ (pump (nextAttempt e s)).counters = s.counters := by
  simp

theorem table_nextAttempt {l1 l2 : List PendingEntry} {e : PendingEntry} (h : Awaits s l1 e l2) (ha : e.attempts < 3) :
    (pump (nextAttempt e s)).table = s.table := by
  rw [nextAttempt_of_awaits h ha]
  simp [retried]

end

/-- The roster has taken a PRESENCE, and the order of the two blocks that it tells has been settled. -/
def heardRestart (s : State) (src : Addr) (p : Presence) : State := { heardFrom s src (some p) with draws := s.draws + 2 }

/-- A frame from a peer that has restarted and was not LOST, as the roster leaves it to the alert unit and the requester (R140). -/
theorem exec_rxPresence_of_restarted {s : State} {src : Addr} {p : Presence} (h : FromPeer s src (.presence p)) (hp : p.alerts.toNat ≤ 16)
    (ha : p.active = false) :
    exec (.rxPresence src 31 p) s = .next (requesterRestarted src.toNat (peerRestartedAlerts src.toNat (heardRestart s src p))) ∨
    exec (.rxPresence src 31 p) s = .next (peerRestartedAlerts src.toNat (requesterRestarted src.toNat (heardRestart s src p))) := by
  have heard : hear src (.presence p) { s with draws := s.draws + 1 } = announceRestart src.toNat (heardFrom s src (some p)) := by
    have joining : carriesJoining (.presence p) = true := by simp [carriesJoining, ha]
    have lost : holdsLost { s with draws := s.draws + 1 } src.toNat = false := h.2
    simp only [hear, lost, joining, infoAfter, heardPeer_eq, if_true]
    rfl
  have run : exec (.rxPresence src 31 p) s = .next (announceRestart src.toNat (heardFrom s src (some p))) :=
    congrArg Host.Outcome.next ((receive_presence h.1 hp).trans heard)
  rw [run]
  exact (eitherFirst_cases _ _ _).imp (congrArg Host.Outcome.next) (congrArg Host.Outcome.next)

/-- Settles O37. -/
theorem restartedPeerIsReannounced : Obligations.RestartedPeerIsReannounced := by
  intro s src p h hp ha
  have restarts := exec_rxPresence_of_restarted h hp ha
  refine ⟨fun hno => ?_, fun l1 e l2 haw ht h1 quiet hq hatt => ?_⟩
  · intro left groups again restarted framed
    have run : exec (.rxPresence src 31 p) s = .next (announce (restarted again)) := by
      have none (t : State) (hr : t.requester = s.requester) : requesterRestarted src.toNat t = t :=
        requesterRestarted_of_none fun e he hte => hno e (hr ▸ he) (BitVec.eq_of_toNat_eq hte)
      rcases restarts with hr | hr
      · rw [hr, none (peerRestartedAlerts src.toNat (heardRestart s src p)) (by simp; rfl), peerRestartedAlerts_eq]
        rfl
      · rw [hr, none (heardRestart s src p) rfl, peerRestartedAlerts_eq]
        rfl
    refine ⟨fun hn => ?_, fun hm hheld hf m1 r m2 hs hra hrf hfr => ?_⟩
    · rw [run]
      refine congrArg Host.Outcome.next ?_
      rcases hn with hm | hfull | hframed
      · have inactive : s.isActive = false := by simpa [State.isActive] using hm
        exact announce_of_not_active inactive
      · exact announce_of_full hfull
      · exact announce_of_nothing hframed
    · rw [run, announce_of_one (s := restarted again) hm hheld hf hs hra hrf hfr]
      rfl
  · intro st
    have due : e.stage ≠ .due := quiet.2 e (haw.1 ▸ List.mem_append_right _ List.mem_cons_self)
    have before : ∀ x ∈ l1, x.target.toNat ≠ src.toNat := fun x hx hxe => h1 x hx (BitVec.eq_of_toNat_eq hxe)
    have awaits (t : State) (hr : t.requester = s.requester) : Awaits t l1 e l2 := by rwa [Awaits, hr]
    have still (t : State) (hr : t.requester = s.requester) : RequesterQuiet t := by rwa [RequesterQuiet, hr]
    have taken (t : State) (hr : t.requester = s.requester) : requesterRestarted src.toNat t = pump (nextAttempt e t) :=
      requesterRestarted_of_awaits (awaits t hr) (congrArg _ ht) before due hq
    have told (t : State) : held .requester (peerRestartedAlerts src.toNat t).bus.queue = held .requester t.bus.queue := by
      rw [peerRestartedAlerts_eq, held_requester_announce]
      rfl
    rcases restarts with run | run
    · obtain ⟨hst, -, -, -, -, hsw, hta, -, hre, hro, -, hcn, -, -⟩ := peerRestartedAlerts_frame src.toNat (heardRestart s src p)
      have hh := told (heardRestart s src p)
      rw [taken (peerRestartedAlerts src.toNat (heardRestart s src p)) hre] at run
      obtain ⟨pro, psw, pcn⟩ := roster_nextAttempt e (peerRestartedAlerts src.toNat (heardRestart s src p))
      refine ⟨_, run, ?_, pro.trans hro, (table_nextAttempt (awaits _ hre) hatt).trans hta, psw.trans hsw, pcn.trans hcn⟩
      rw [requester_nextAttempt (awaits _ hre) (still _ hre) hatt, hst, hh, hre]
      rfl
    · obtain ⟨-, -, -, -, -, hsw, hta, -, hre, hro, -, hcn, -, -⟩ := peerRestartedAlerts_frame src.toNat (pump (nextAttempt e (heardRestart s src p)))
      obtain ⟨pro, psw, pcn⟩ := roster_nextAttempt e (heardRestart s src p)
      rw [taken (heardRestart s src p) rfl] at run
      exact ⟨_, run, hre.trans (requester_nextAttempt (s := heardRestart s src p) haw quiet hatt), hro.trans pro,
        hta.trans (table_nextAttempt (s := heardRestart s src p) haw hatt), hsw.trans psw, hcn.trans pcn⟩

end Sys2Proof.Machine
end
section
/-! The loss of a peer at the value table, the requester, the sweep unit and the alert unit (R60, R76, R116, R132, R133, R141). -/

namespace Sys2Proof.Machine
open Sys2Proof.Safety

/-! What a look for candidates does about a LOST station: nothing (R126) -/

/-- The channel sets that the entries of the pending table ask of a station. -/
def askedOf (r : Requester) (a : Addr) : List ChannelSet :=
  ((r.pending.map (fun e => (e.target, e.channels))).filter (fun p => p.1 == a)).map Prod.snd

theorem mem_askedOf {r : Requester} {a : Addr} {m : ChannelSet} :
    m ∈ askedOf r a ↔ ∃ e ∈ r.pending, e.target = a ∧ e.channels = m := by
  simp only [askedOf, List.mem_map, List.mem_filter, beq_iff_eq]
  constructor
  · rintro ⟨_, ⟨⟨e, he, rfl⟩, ht⟩, rfl⟩
    exact ⟨e, he, ht, rfl⟩
  · rintro ⟨e, he, ht, rfl⟩
    exact ⟨_, ⟨⟨e, he, rfl⟩, ht⟩, rfl⟩

theorem covered_iff {t : State} {a : Addr} {c : Nat} : Covered t a c ↔
    (∃ w, t.requester.wanted.find a.toNat = some w ∧ setHas w c = true) ∨ ∃ m ∈ askedOf t.requester a, setHas m c = true := by
  refine or_congr_right ⟨?_, ?_⟩
  · rintro ⟨e, he, ht, hc⟩
    exact ⟨_, mem_askedOf.mpr ⟨e, he, ht, rfl⟩, hc⟩
  · rintro ⟨m, hm, hc⟩
    obtain ⟨e, he, ht, rfl⟩ := mem_askedOf.mp hm
    exact ⟨e, he, ht, hc⟩

/-- The wanted map is kept under addresses (R181). -/
abbrev SmallWanted (s : State) : Prop := ∀ w ∈ s.requester.wanted, w.1 < 32

/-- Nothing that concerns station a has changed at the requester, and nothing at all at the value table. -/
structure SameFor (a : Addr) (s t : State) : Prop where
  station : t.station = s.station
  roster : t.roster = s.roster
  table : t.table = s.table
  holdOffs : t.requester.holdOffs = s.requester.holdOffs
  wanted : t.requester.wanted.find a.toNat = s.requester.wanted.find a.toNat
  asked : askedOf t.requester a = askedOf s.requester a
  small : SmallWanted t

section
variable {s t : State} {a : Addr}

theorem SameFor.refl (h : SmallWanted s) : SameFor a s s := ⟨rfl, rfl, rfl, rfl, rfl, rfl, h⟩

theorem SameFor.trans {u : State} (h : SameFor a s t) (h' : SameFor a t u) : SameFor a s u :=
  ⟨h'.station.trans h.station, h'.roster.trans h.roster, h'.table.trans h.table, h'.holdOffs.trans h.holdOffs, h'.wanted.trans h.wanted,
    h'.asked.trans h.asked, h'.small⟩

theorem holdsLost_congr (h : t.roster = s.roster) (b : Nat) : holdsLost t b = holdsLost s b := by simp only [holdsLost, h]

theorem sameFor_issueOne (lost : holdsLost s a.toNat = true) (small : SmallWanted s) : SameFor a s (issueOne s) := by
  unfold issueOne
  split
  · split
    · exact .refl small
    next b hb =>
      obtain ⟨w, hw, -, -, hne⟩ := mem_candidates.mp (nextTarget_mem hb)
      have hb32 : b < 32 := small _ hw
      have hab : a.toNat ≠ b := fun e => by rw [← e, lost] at hne; simp at hne
      have other : (newEntry s b).target ≠ a := fun e => hab (by
        rw [← e, newEntry]
        exact (BitVec.toNat_ofNat b 5).trans (Nat.mod_eq_of_lt hb32))
      refine ⟨rfl, rfl, rfl, rfl, ?_, ?_, fun p hp => small p (Map.mem_erase hp).1⟩
      · exact (Map.find_erase ..).trans (if_neg hab)
      · simp only [askedOf, List.map_append, List.filter_append, List.map_cons, List.map_nil]
        rw [List.filter_cons_of_neg (by simp [other])]
        simp
  · exact .refl small

theorem sameFor_sendDue (small : SmallWanted s) : SameFor a s (sendDue s) := by
  unfold sendDue
  split
  · split
    · exact .refl small
    · refine ⟨rfl, rfl, rfl, rfl, rfl, ?_, small⟩
      have same := map_updateFirst (p := isDueEntry) (f := fun e => { e with stage := .queued }) (g := fun e => (e.target, e.channels))
        (fun _ _ => rfl) s.requester.pending
      exact congrArg (fun l => (l.filter (fun p => p.1 == a)).map Prod.snd) same
  · exact .refl small

theorem sameFor_pump (lost : holdsLost s a.toNat = true) (small : SmallWanted s) : SameFor a s (pump s) := by
  have next {t : State} (h : SameFor a s t) : SameFor a s (issueOne t) :=
    h.trans (sameFor_issueOne ((holdsLost_congr h.roster _).trans lost) h.small)
  have issued := next (next (next (next (.refl small))))
  exact issued.trans (sameFor_sendDue issued.small)

end

/-! The value table first (R73, R76, R122) -/

/-- The table after a peer's loss (R76). -/
def staleTable (a : Addr) (T : Map Entry) : Map Entry :=
  T.mapRecords (fun k e => if ixStation k = a.toNat ∧ e.state = .fresh then Entry.goStale e else e)

/-- The keys that the value table announces at a peer's loss (R73, R76). -/
def lostKeys (a : Addr) (s : State) : List Nat := watchedRemote (fun k e => ixStation k == a.toNat && e.state == .fresh) s

theorem mem_lostKeys {a : Addr} {s : State} {k : Nat} : k ∈ lostKeys a s ↔
    ixStation k = a.toNat ∧ a ≠ s.own ∧ ∃ e, (k, e) ∈ s.table ∧ e.pinned = true ∧ e.state = .fresh := by
  simp only [lostKeys, watchedRemote, List.mem_map, List.mem_filter, Bool.and_eq_true, bne_iff_ne, beq_iff_eq]
  constructor
  · rintro ⟨⟨_, e⟩, ⟨hm, ⟨hp, ho⟩, hk, hf⟩, rfl⟩
    exact ⟨hk, fun h => ho (hk.trans (congrArg _ h)), e, hm, hp, hf⟩
  · rintro ⟨hk, ho, e, hm, hp, hf⟩
    exact ⟨(k, e), ⟨hm, ⟨hp, fun h => ho (BitVec.eq_of_toNat_eq (hk.symm.trans h))⟩, hk, hf⟩, rfl⟩

/-- The value table has taken the loss before the requester. -/
structure TableTold (a : Addr) (s t : State) : Prop where
  station : t.station = s.station
  roster : t.roster = s.roster
  table : t.table = staleTable a s.table
  holdOffs : t.requester.holdOffs = s.requester.holdOffs
  small : SmallWanted t
  covered : ∀ c, Covered t a c ↔ Covered s a c ∨ ∃ k ∈ lostKeys a s, ixChannel k = c ∧ s.requester.holdOffs.find k = none

section
variable {s t : State} {a : Addr}

theorem covered_wantKey_iff {k : Nat} (hk : ixStation k = a.toNat) (c : Nat) :
    Covered (wantKey s k) a c ↔ Covered s a c ∨ ixChannel k = c := by
  constructor
  · intro h
    unfold wantKey at h
    split at h
    · exact .inl h
    · rw [hk] at h
      rcases h with ⟨w, hw, hc⟩ | h
      · rw [← Option.some.inj ((Map.find_set_self ..).symm.trans hw), setHas_setInsert _ _ _ (ixChannel_lt k), Bool.or_eq_true,
          decide_eq_true_eq] at hc
        refine hc.imp_left fun hc => .inl ?_
        rcases hf : s.requester.wanted.find a.toNat with _ | w'
        · simp [hf, setHas] at hc
        · exact ⟨w', rfl, by simpa [hf] using hc⟩
      · exact .inl (.inr h)
  · rintro (h | rfl)
    · exact covered_wantKey h
    · exact covered_wantKey_self hk

theorem smallWanted_wantKey {k : Nat} (hk : ixStation k = a.toNat) (small : SmallWanted s) : SmallWanted (wantKey s k) := by
  unfold wantKey
  split
  · exact small
  · intro p hp
    rcases Map.mem_set_cases hp with rfl | hp
    · exact hk ▸ a.isLt
    · exact small p hp

/-- The notices of a loss that the requester has not taken yet. -/
theorem foldl_staleNoticeBeforeLoss {keys : List Nat} (hk : ∀ k ∈ keys, ixStation k = a.toNat) (small : SmallWanted s) :
    let t := keys.foldl staleNoticeBeforeLoss s
    t.station = s.station ∧ t.roster = s.roster ∧ t.table = s.table ∧ t.requester.holdOffs = s.requester.holdOffs ∧ SmallWanted t ∧
      ∀ c, Covered t a c ↔ Covered s a c ∨ ∃ k ∈ keys, ixChannel k = c ∧ s.requester.holdOffs.find k = none := by
  induction keys generalizing s with
  | nil => exact ⟨rfl, rfl, rfl, rfl, small, fun c => by simp⟩
  | cons k keys ih =>
    obtain ⟨hk0, hks⟩ := List.forall_mem_cons.mp hk
    rcases hf : s.requester.holdOffs.find k with _ | d
    · have step : staleNoticeBeforeLoss s k = wantKey s k := if_neg (by simp [hf])
      obtain ⟨hro, hho, hta, -⟩ := sameBesideWanted_wantKey s k
      obtain ⟨h1, h2, h3, h4, h5, h6⟩ := ih (s := wantKey s k) hks (smallWanted_wantKey hk0 small)
      intro t
      have : t = keys.foldl staleNoticeBeforeLoss (wantKey s k) := congrArg (keys.foldl staleNoticeBeforeLoss) step
      rw [this]
      refine ⟨h1.trans (wantKey_frame s k).1, h2.trans hro, h3.trans hta, h4.trans hho, h5, fun c => ?_⟩
      rw [h6, covered_wantKey_iff hk0, hho]
      simp [hf, or_assoc]
    · have step : staleNoticeBeforeLoss s k = s := if_pos (by simp [hf])
      intro t
      have : t = keys.foldl staleNoticeBeforeLoss s := congrArg (keys.foldl staleNoticeBeforeLoss) step
      obtain ⟨h1, h2, h3, h4, h5, h6⟩ := ih hks small
      rw [this]
      refine ⟨h1, h2, h3, h4, h5, fun c => ?_⟩
      rw [h6]
      simp [hf]

theorem tableTold (active : s.isActive = true) (lost : holdsLost s a.toNat = true) (small : SmallWanted s) :
    TableTold a s (tableLost staleNoticeBeforeLoss a.toNat s) := by
  obtain ⟨h1, h2, h3, h4, h5, h6⟩ := foldl_staleNoticeBeforeLoss (s := staleAll a.toNat s) (keys := lostKeys a s)
    (fun k hk => (mem_lostKeys.mp hk).1) small
  have pumped := sameFor_pump ((holdsLost_congr h2 _).trans lost) h5
  have told : tableLost staleNoticeBeforeLoss a.toNat s = pump ((lostKeys a s).foldl staleNoticeBeforeLoss (staleAll a.toNat s)) := if_pos active
  rw [told]
  refine ⟨pumped.station.trans h1, pumped.roster.trans h2, pumped.table.trans h3, pumped.holdOffs.trans h4, pumped.small, fun c => ?_⟩
  rw [covered_iff, pumped.wanted, pumped.asked, ← covered_iff, h6]
  rfl

end

/-! Giving up (R132) -/

section
variable {s t : State} {a : Addr}

theorem markUnreachable_table (s : State) (k : Nat) : (markUnreachable s k).table = markTable s.table k := by
  unfold markUnreachable markTable
  rcases s.table.find k with _ | e
  · rfl
  · dsimp only
    split
    · rfl
    · simp

theorem foldl_markUnreachable_table (keys : List Nat) (s : State) :
    (keys.foldl markUnreachable s).table = keys.foldl markTable s.table ∧ (keys.foldl markUnreachable s).requester = s.requester := by
  induction keys generalizing s with
  | nil => exact ⟨rfl, rfl⟩
  | cons k keys ih =>
    obtain ⟨h1, h2⟩ := ih (markUnreachable s k)
    exact ⟨h1.trans (congrArg (keys.foldl markTable) (markUnreachable_table s k)), h2.trans (by simp)⟩

/-- Keys held off for 5000 ms (R123). -/
def heldOff (keys : List Nat) (H : Map Nat) : Map Nat := keys.foldl (fun h k => Map.set h k 5000) H

theorem giveUp_eq (station : Nat) (channels : ChannelSet) (s : State) :
    (giveUp station channels s).table = (keysOf station channels).foldl markTable s.table ∧
    (giveUp station channels s).requester =
      { s.requester with holdOffs := heldOff (keysOf station channels) s.requester.holdOffs } := by
  obtain ⟨h1, h2⟩ := foldl_markUnreachable_table (keysOf station channels) s
  refine ⟨h1, ?_⟩
  simp only [giveUp, h2]
  rfl

/-! The requester (R133) -/

/-- Keys given up, and the requester with nothing left to ask of station a. -/
structure RequesterTold (a : Addr) (s t : State) (keys : List Nat) : Prop where
  station : t.station = s.station
  roster : t.roster = s.roster
  table : t.table = keys.foldl markTable s.table
  holdOffs : t.requester.holdOffs = heldOff keys s.requester.holdOffs
  wanted : t.requester.wanted.find a.toNat = none
  asked : askedOf t.requester a = []
  small : SmallWanted t
  keys : ∀ k, k ∈ keys ↔ ixStation k = a.toNat ∧ Covered s a (ixChannel k)

theorem setHas_foldl_or {l : List PendingEntry} {b : ChannelSet} {c : Nat} :
    setHas (l.foldl (fun c e => c ||| e.channels) b) c = true ↔ setHas b c = true ∨ ∃ e ∈ l, setHas e.channels c = true := by
  induction l generalizing b with
  | nil => simp
  | cons e l ih =>
    rw [List.foldl_cons, ih]
    simp [setHas, or_assoc]

theorem requesterTold (active : s.isActive = true) (lost : holdsLost s a.toNat = true) (small : SmallWanted s) :
    ∃ keys, RequesterTold a s (requesterLost a.toNat s) keys := by
  let asked := s.requester.pending.filter (fun e => e.target.toNat == a.toNat)
  let channels := asked.foldl (fun c e => c ||| e.channels) ((s.requester.wanted.find a.toNat).getD 0)
  let left : State := { s with requester := { s.requester with
    pending := s.requester.pending.filter (fun e => e.target.toNat != a.toNat)
    wanted := s.requester.wanted.erase a.toNat } }
  have told : requesterLost a.toNat s = pump (giveUp a.toNat channels left) := if_pos active
  obtain ⟨table, requester⟩ := giveUp_eq a.toNat channels left
  obtain ⟨station, -, -, -, -, -, -, roster, -⟩ := giveUp_frame a.toNat channels left
  have small' : SmallWanted (giveUp a.toNat channels left) := by
    rw [SmallWanted, requester]
    exact fun p hp => small p (Map.mem_erase hp).1
  have pumped := sameFor_pump ((holdsLost_congr roster _).trans lost) small'
  have none_asked : askedOf left.requester a = [] := by
    refine List.eq_nil_iff_forall_not_mem.mpr fun m hm => ?_
    obtain ⟨e, he, ht, -⟩ := mem_askedOf.mp hm
    have := (List.mem_filter.mp he).2
    simp [ht] at this
  refine ⟨keysOf a.toNat channels, told ▸ ⟨pumped.station.trans station, pumped.roster.trans roster, pumped.table.trans table, ?_, ?_, ?_,
    pumped.small, fun k => ?_⟩⟩
  · rw [pumped.holdOffs, requester]
  · rw [pumped.wanted, requester]
    exact (Map.find_erase ..).trans (if_pos rfl)
  · rw [pumped.asked, requester]
    exact none_asked
  · rw [mem_keysOf, setHas_foldl_or]
    refine and_congr_right fun _ => or_congr ?_ ?_
    · rcases s.requester.wanted.find a.toNat with _ | w
      · simp [setHas]
      · simp
    · simp [asked, BitVec.toNat_inj, and_assoc]

/-! The value table after the requester (R122) -/

/-- What stale notices of a LOST station give up. -/
theorem foldl_staleNotice {keys : List Nat} (hk : ∀ k ∈ keys, ixStation k = a.toNat) (lost : holdsLost s a.toNat = true) :
    ∃ done, (∀ k, k ∈ done ↔ k ∈ keys ∧ s.requester.holdOffs.find k = none) ∧
      (keys.foldl staleNotice s).table = done.foldl markTable s.table ∧
      (keys.foldl staleNotice s).requester = { s.requester with holdOffs := heldOff done s.requester.holdOffs } ∧
      (keys.foldl staleNotice s).station = s.station ∧ (keys.foldl staleNotice s).roster = s.roster := by
  induction keys generalizing s with
  | nil => exact ⟨[], by simp, rfl, rfl, rfl, rfl⟩
  | cons k keys ih =>
    obtain ⟨hk0, hks⟩ := List.forall_mem_cons.mp hk
    rw [List.foldl_cons]
    rcases hf : s.requester.holdOffs.find k with _ | d
    · have one : keysOf (ixStation k) (setInsert 0 (ixChannel k)) = [k] := by
        have : (setInsert 0 (ixChannel k) : ChannelSet) = BitVec.twoPow 8 (ixChannel k) := by simp [setInsert]
        rw [this, keysOf_twoPow rfl]
      have step : staleNotice s k = giveUp (ixStation k) (setInsert 0 (ixChannel k)) s := by
        rw [staleNotice, if_neg (by simp [hf]), takeKey, if_pos (hk0.symm ▸ lost)]
      obtain ⟨table, requester⟩ := giveUp_eq (ixStation k) (setInsert 0 (ixChannel k)) s
      obtain ⟨station, -, -, -, -, -, -, roster, -⟩ := giveUp_frame (ixStation k) (setInsert 0 (ixChannel k)) s
      rw [one, ← step] at table requester
      rw [← step] at station roster
      obtain ⟨done, h1, h2, h3, h4, h5⟩ := ih hks ((holdsLost_congr roster _).trans lost)
      refine ⟨k :: done, fun j => ?_, by rw [h2, table]; rfl, by rw [h3, requester]; rfl, h4.trans station, h5.trans roster⟩
      have held : (staleNotice s k).requester.holdOffs.find j = if j = k then some 5000 else s.requester.holdOffs.find j := by
        rw [requester]
        exact Map.find_set ..
      rw [List.mem_cons, List.mem_cons, h1, held]
      by_cases hj : j = k
      · simp [hj, hf]
      · simp [hj]
    · have step : staleNotice s k = s := if_pos (by simp [hf])
      rw [step]
      obtain ⟨done, h1, h2⟩ := ih hks lost
      refine ⟨done, fun j => ?_, h2⟩
      rw [h1, List.mem_cons]
      by_cases hj : j = k
      · simp [hj, hf]
      · simp [hj]

/-- The value table has taken the loss after the requester. -/
structure TableToldLast (a : Addr) (s t : State) (keys : List Nat) : Prop where
  table : t.table = keys.foldl markTable (staleTable a s.table)
  holdOffs : t.requester.holdOffs = heldOff keys s.requester.holdOffs
  wanted : t.requester.wanted.find a.toNat = s.requester.wanted.find a.toNat
  asked : askedOf t.requester a = askedOf s.requester a
  keys : ∀ k, k ∈ keys ↔ k ∈ lostKeys a s ∧ s.requester.holdOffs.find k = none

theorem tableToldLast (active : s.isActive = true) (lost : holdsLost s a.toNat = true) (small : SmallWanted s) :
    ∃ keys, TableToldLast a s (tableLost staleNotice a.toNat s) keys := by
  obtain ⟨done, h1, h2, h3, -, h5⟩ := foldl_staleNotice (s := staleAll a.toNat s) (keys := lostKeys a s)
    (fun k hk => (mem_lostKeys.mp hk).1) lost
  have told : tableLost staleNotice a.toNat s = pump ((lostKeys a s).foldl staleNotice (staleAll a.toNat s)) := if_pos active
  have pumped := sameFor_pump (a := a) ((holdsLost_congr h5 _).trans lost) (by rw [SmallWanted, h3]; exact small)
  exact ⟨done, told ▸ ⟨pumped.table.trans h2, by rw [pumped.holdOffs, h3]; rfl, by rw [pumped.wanted, h3]; rfl,
    by rw [pumped.asked, h3]; rfl, h1⟩⟩

end

/-! The two orders of the value table and the requester come to the same (log entry 8) -/

/-- The keys that a loss gives up (R122, R133). -/
def GivesUp (a : Addr) (s : State) (k : Nat) : Prop :=
  ixStation k = a.toNat ∧ (Covered s a (ixChannel k) ∨ (k ∈ lostKeys a s ∧ s.requester.holdOffs.find k = none))

/-- An entry after a loss (R76). -/
def staleOf (a : Addr) (k : Nat) (e : Entry) : Entry := if ixStation k = a.toNat ∧ e.state = .fresh then Entry.goStale e else e

/-- The value table and the requester after both have taken the loss. -/
structure LostOutcome (a : Addr) (s t : State) : Prop where
  table : ∀ k, (GivesUp a s k → t.table.find k = (s.table.find k).map (fun e => { staleOf a k e with unreachable := true })) ∧
    (¬ GivesUp a s k → t.table.find k = (s.table.find k).map (staleOf a k))
  holdOffs : ∀ k, (GivesUp a s k → t.requester.holdOffs.find k = some 5000) ∧
    (¬ GivesUp a s k → t.requester.holdOffs.find k = s.requester.holdOffs.find k)
  wanted : t.requester.wanted.find a.toNat = none
  asked : askedOf t.requester a = []

/-- The station, the roster, the value table and the requester as they were. -/
structure SameParts (s t : State) : Prop where
  station : t.station = s.station
  roster : t.roster = s.roster
  table : t.table = s.table
  requester : t.requester = s.requester

section
variable {s s1 s2 t t1 t2 : State} {a : Addr}

theorem sameParts_sweepLost (station : Nat) (s : State) : SameParts s (sweepLost station s) := by
  obtain ⟨h1, -, -, -, -, h2, h3, h4, -⟩ := sweepLost_frame station s
  exact ⟨h1, h4, h2, h3⟩

theorem covered_congr (h : t.requester = s.requester) (c : Nat) : Covered t a c ↔ Covered s a c := by
  rw [Covered, h]

theorem lostKeys_congr (hs : t.station = s.station) (ht : t.table = s.table) : lostKeys a t = lostKeys a s := by
  simp only [lostKeys, watchedRemote, ht, own_of_station hs]

theorem SameParts.isActive (h : SameParts s t) : t.isActive = s.isActive := by simp only [State.isActive, h.station]

theorem find_staleTable (a : Addr) (T : Map Entry) (k : Nat) : (staleTable a T).find k = (T.find k).map (staleOf a k) :=
  Map.find_mapRecords ..

theorem find_heldOff (keys : List Nat) (H : Map Nat) (k : Nat) : (heldOff keys H).find k = if k ∈ keys then some 5000 else H.find k :=
  Map.find_foldl_set ..

theorem lostOutcome_of_keys {keys : List Nat} (table : ∀ k, t.table.find k = (keys.foldl markTable (staleTable a s.table)).find k)
    (holdOffs : ∀ k, t.requester.holdOffs.find k = (heldOff keys s.requester.holdOffs).find k)
    (wanted : t.requester.wanted.find a.toNat = none) (asked : askedOf t.requester a = []) (mem : ∀ k, k ∈ keys ↔ GivesUp a s k) :
    LostOutcome a s t := by
  refine ⟨fun k => ⟨fun h => ?_, fun h => ?_⟩, fun k => ⟨fun h => ?_, fun h => ?_⟩, wanted, asked⟩
  · rw [table, find_foldl_markTable, if_pos ((mem k).mpr h), find_staleTable, Option.map_map]
    rfl
  · rw [table, find_foldl_markTable, if_neg (mt (mem k).mp h), find_staleTable]
  · rw [holdOffs, find_heldOff, if_pos ((mem k).mpr h)]
  · rw [holdOffs, find_heldOff, if_neg (mt (mem k).mp h)]

theorem LostOutcome.congr (h : SameParts t t1) (o : LostOutcome a s t) : LostOutcome a s t1 := by
  obtain ⟨o1, o2, o3, o4⟩ := o
  refine ⟨?_, ?_, ?_, ?_⟩
  · rwa [h.table]
  · rwa [h.requester]
  · rwa [h.requester]
  · rwa [h.requester]

theorem givesUp_iff_covered (v : TableTold a s t) (k : Nat) : ixStation k = a.toNat ∧ Covered t a (ixChannel k) ↔ GivesUp a s k := by
  refine and_congr_right fun hk => (v.covered _).trans (or_congr_right ⟨?_, fun h => ⟨k, h.1, rfl, h.2⟩⟩)
  rintro ⟨j, hj, hc, hf⟩
  have : j = k := by
    have := (mem_lostKeys.mp hj).1
    simp only [ixStation, ixChannel] at hk hc this
    omega
  exact this ▸ ⟨hj, hf⟩

/-- The value table, then the requester. -/
theorem lostOutcome_of_table_first (h : SameParts s s1) (v : TableTold a s1 t) (h' : SameParts t t1) {keys : List Nat}
    (r : RequesterTold a t1 t2 keys) : LostOutcome a s t2 := by
  refine lostOutcome_of_keys (keys := keys) (fun k => ?_) (fun k => ?_) r.wanted r.asked fun k => ?_
  · rw [r.table, h'.table, v.table, h.table]
  · rw [r.holdOffs, h'.requester, v.holdOffs, h.requester]
  · rw [r.keys, covered_congr h'.requester, givesUp_iff_covered v, GivesUp, GivesUp, covered_congr h.requester,
      lostKeys_congr h.station h.table, h.requester]

theorem mem_markTable {T : Map Entry} {j k : Nat} :
    (∃ e, (k, e) ∈ markTable T j ∧ e.pinned = true ∧ e.state = .fresh) ↔ ∃ e, (k, e) ∈ T ∧ e.pinned = true ∧ e.state = .fresh := by
  have adjusted : (∃ e, (k, e) ∈ T.adjust j (fun e => { e with unreachable := true }) ∧ e.pinned = true ∧ e.state = .fresh) ↔
      ∃ e, (k, e) ∈ T ∧ e.pinned = true ∧ e.state = .fresh := by
    simp only [Map.adjust, List.mem_map]
    constructor
    · rintro ⟨e, ⟨⟨i, e'⟩, hm, he⟩, hp, hf⟩
      split at he
      · obtain ⟨rfl, rfl⟩ := Prod.mk.inj he
        exact ⟨e', hm, hp, hf⟩
      · obtain ⟨rfl, rfl⟩ := Prod.mk.inj he
        exact ⟨e', hm, hp, hf⟩
    · rintro ⟨e, hm, hp, hf⟩
      by_cases hk : k = j
      · exact ⟨_, ⟨(k, e), hm, if_pos hk⟩, hp, hf⟩
      · exact ⟨_, ⟨(k, e), hm, if_neg hk⟩, hp, hf⟩
  unfold markTable
  split
  · split
    · rfl
    · exact adjusted
  · rfl

theorem mem_foldl_markTable {keys : List Nat} {T : Map Entry} {k : Nat} :
    (∃ e, (k, e) ∈ keys.foldl markTable T ∧ e.pinned = true ∧ e.state = .fresh) ↔ ∃ e, (k, e) ∈ T ∧ e.pinned = true ∧ e.state = .fresh := by
  induction keys generalizing T with
  | nil => rfl
  | cons j keys ih => exact ih.trans mem_markTable

theorem mem_lostKeys_of_marked {keys : List Nat} (hs : t.station = s.station) (ht : t.table = keys.foldl markTable s.table) (k : Nat) :
    k ∈ lostKeys a t ↔ k ∈ lostKeys a s := by
  rw [mem_lostKeys, mem_lostKeys, ht, mem_foldl_markTable, own_of_station hs]

theorem staleOf_marked (a : Addr) (k : Nat) (e : Entry) : staleOf a k { e with unreachable := true } = { staleOf a k e with unreachable := true } := by
  unfold staleOf
  split_ifs <;> rfl

/-- The requester, then the value table. -/
theorem lostOutcome_of_requester_first (h : SameParts s s1) {keys1 keys2 : List Nat} (r : RequesterTold a s1 t keys1) (h' : SameParts t t1)
    (u : TableToldLast a t1 t2 keys2) : LostOutcome a s t2 := by
  refine lostOutcome_of_keys (keys := keys1 ++ keys2) (fun k => ?_) (fun k => ?_) ?_ ?_ fun k => ?_
  · rw [u.table, h'.table, r.table, h.table, find_foldl_markTable, find_staleTable, find_foldl_markTable, find_foldl_markTable,
      find_staleTable]
    by_cases h1 : k ∈ keys1
    · by_cases h2 : k ∈ keys2
      · simp [h1, h2, Function.comp_def, staleOf_marked]
      · simp [h1, h2, Function.comp_def, staleOf_marked]
    · by_cases h2 : k ∈ keys2
      · simp [h1, h2]
      · simp [h1, h2]
  · rw [u.holdOffs, h'.requester, r.holdOffs, h.requester, find_heldOff, find_heldOff, find_heldOff]
    by_cases h1 : k ∈ keys1 <;> simp [h1]
  · rw [u.wanted, h'.requester, r.wanted]
  · rw [u.asked, h'.requester, r.asked]
  · have mem1 : k ∈ keys1 ↔ ixStation k = a.toNat ∧ Covered s a (ixChannel k) := by rw [r.keys, covered_congr h.requester]
    have mem2 : k ∈ keys2 ↔ k ∈ lostKeys a s ∧ k ∉ keys1 ∧ s.requester.holdOffs.find k = none := by
      rw [u.keys, mem_lostKeys_of_marked (h'.station.trans (r.station.trans h.station)) (h'.table.trans (h.table ▸ r.table)), h'.requester,
        r.holdOffs, h.requester, find_heldOff]
      by_cases h1 : k ∈ keys1 <;> simp [h1]
    have station (hl : k ∈ lostKeys a s) : ixStation k = a.toNat := (mem_lostKeys.mp hl).1
    rw [List.mem_append, mem2, GivesUp]
    constructor
    · rintro (h1 | ⟨hl, -, hf⟩)
      · exact ⟨(mem1.mp h1).1, .inl (mem1.mp h1).2⟩
      · exact ⟨station hl, .inr ⟨hl, hf⟩⟩
    · rintro ⟨hk, hc | ⟨hl, hf⟩⟩
      · exact .inl (mem1.mpr ⟨hk, hc⟩)
      · exact (Classical.em (k ∈ keys1)).imp_right fun h1 => ⟨hl, h1, hf⟩

end

/-! The sweep unit (R60) -/

/-- An OPEN tally does not expect the station, and L is as it was. -/
abbrev Swept (a : Nat) (s t : State) : Prop :=
  t.sweeps.last = s.sweeps.last ∧ ∀ c, t.sweeps.current = some c → c.state = .opened → setHas c.expected a = false

theorem swept_sweepLost (a : Nat) (s : State) : Swept a s (sweepLost a s) := by
  have erased (x : StationSet) : setHas (setErase x a) a = false := by simp [setHas_setErase]
  unfold sweepLost
  rcases ho : openTally s with _ | t
  · refine ⟨rfl, fun c hc hs => absurd ho ?_⟩
    have hc' : s.sweeps.current = some c := hc
    simp [openTally, hc', hs]
  · dsimp only
    split_ifs with h1 h2
    · refine ⟨by simp [closeTally], fun c hc hs => ?_⟩
      simp only [closeTally, closeNotice_frame] at hc
      rw [← Option.some.inj hc] at hs
      simp at hs
    · exact ⟨rfl, fun c hc _ => Option.some.inj hc ▸ erased _⟩
    · refine ⟨rfl, fun c hc hs => ?_⟩
      have hc' : s.sweeps.current = some c := hc
      have : t = c := by simpa [openTally, hc', hs] using ho.symm
      exact this ▸ Bool.eq_false_iff.mpr h1

/-! The three orders together -/

section
variable {s t : State} {a : Addr}

theorem swept_of_sweeps {a : Nat} {x y : State} (hx : x.sweeps = s.sweeps) (hy : y.sweeps = (sweepLost a x).sweeps) : Swept a s y := by
  have h := swept_sweepLost a x
  rw [Swept, hx] at h
  rwa [Swept, hy]

theorem SameParts.trans {u : State} (h : SameParts s t) (h' : SameParts t u) : SameParts s u :=
  ⟨h'.station.trans h.station, h'.roster.trans h.roster, h'.table.trans h.table, h'.requester.trans h.requester⟩

theorem SameParts.lost (h : SameParts s t) (lost : holdsLost s a.toNat = true) : holdsLost t a.toNat = true :=
  (holdsLost_congr h.roster _).trans lost

theorem SameParts.small (h : SameParts s t) (small : SmallWanted s) : SmallWanted t := by rwa [SmallWanted, h.requester]

/-- The value table, then the requester, with something between them that touches neither. -/
theorem lostOutcome_table_requester (active : s.isActive = true) (lost : holdsLost s a.toNat = true) (small : SmallWanted s)
    {s1 : State} (h : SameParts s s1) {between : State → State} (hb : ∀ t, SameParts t (between t)) :
    LostOutcome a s (requesterLost a.toNat (between (tableLost staleNoticeBeforeLoss a.toNat s1))) := by
  have v := tableTold (h.isActive.trans active) (h.lost lost) (h.small small)
  have h' := hb (tableLost staleNoticeBeforeLoss a.toNat s1)
  have lost1 := (holdsLost_congr v.roster a.toNat).trans (h.lost lost)
  have active1 : (tableLost staleNoticeBeforeLoss a.toNat s1).isActive = true := by
    rw [State.isActive, v.station]
    exact h.isActive.trans active
  obtain ⟨keys, r⟩ := requesterTold (h'.isActive.trans active1) (h'.lost lost1) (h'.small v.small)
  exact lostOutcome_of_table_first h v h' r

/-- The requester, then the value table, with something between them that touches neither. -/
theorem lostOutcome_requester_table (active : s.isActive = true) (lost : holdsLost s a.toNat = true) (small : SmallWanted s)
    {s1 : State} (h : SameParts s s1) {between : State → State} (hb : ∀ t, SameParts t (between t)) :
    LostOutcome a s (tableLost staleNotice a.toNat (between (requesterLost a.toNat s1))) := by
  obtain ⟨keys1, r⟩ := requesterTold (h.isActive.trans active) (h.lost lost) (h.small small)
  have h' := hb (requesterLost a.toNat s1)
  have lost1 := (holdsLost_congr r.roster a.toNat).trans (h.lost lost)
  have active1 : (requesterLost a.toNat s1).isActive = true := by
    rw [State.isActive, r.station]
    exact h.isActive.trans active
  obtain ⟨keys2, u⟩ := tableToldLast (h'.isActive.trans active1) (h'.lost lost1) (h'.small r.small)
  exact lostOutcome_of_requester_first h r h' u

/-- What the value table, the sweep unit and the requester make of a loss, whatever the order (R141, log entry 8). -/
theorem announceLost_induct {P : State → Prop} (station : Nat)
    (h : let v := tableLost staleNoticeBeforeLoss station
      let u := tableLost staleNotice station
      let w := sweepLost station
      let r := requesterLost station
      let s1 := { s with draws := s.draws + 1 }
      P (r (w (v s1))) ∧ P (w (r (v s1))) ∧ P (r (v (w s1))) ∧ P (u (r (w s1))) ∧ P (w (u (r s1))) ∧ P (u (w (r s1)))) :
    ∃ t, P t ∧ announceLost station s = forgetAsserter station t := by
  obtain ⟨h1, h2, h3, h4, h5, h6⟩ := h
  refine ⟨_, settle_induct (P := P) h1 (fun t ht => ?_), rfl⟩
  simp only [List.mem_cons, List.not_mem_nil, or_false] at ht
  rcases ht with rfl | rfl | rfl | rfl | rfl
  · exact h2
  · exact h3
  · exact h4
  · exact h5
  · exact h6

/-- The sweep unit's part, in every order. -/
theorem swept_of_orders {v u r : State → State} (hv : ∀ t, (v t).sweeps = t.sweeps) (hu : ∀ t, (u t).sweeps = t.sweeps)
    (hr : ∀ t, (r t).sweeps = t.sweeps) (a : Nat) (s : State) :
    let w := sweepLost a
    Swept a s (r (w (v s))) ∧ Swept a s (w (r (v s))) ∧ Swept a s (r (v (w s))) ∧ Swept a s (u (r (w s))) ∧ Swept a s (w (u (r s))) ∧
      Swept a s (u (w (r s))) :=
  ⟨swept_of_sweeps (hv s) (hr _), swept_of_sweeps ((hr _).trans (hv s)) rfl, swept_of_sweeps rfl ((hr _).trans (hv _)),
    swept_of_sweeps rfl ((hu _).trans (hr _)), swept_of_sweeps ((hu _).trans (hr s)) rfl, swept_of_sweeps (hr s) (hu _)⟩

/-- The loss at an ACTIVE station. -/
theorem announceLost_of_active (active : s.isActive = true) (lost : holdsLost s a.toNat = true) (small : SmallWanted s) :
    ∃ t, (LostOutcome a s t ∧ Swept a.toNat s t) ∧ announceLost a.toNat s = forgetAsserter a.toNat t := by
  have start : SameParts s { s with draws := s.draws + 1 } := ⟨rfl, rfl, rfl, rfl⟩
  have swept := sameParts_sweepLost a.toNat
  have none (t : State) : SameParts t (id t) := ⟨rfl, rfl, rfl, rfl⟩
  obtain ⟨w1, w2, w3, w4, w5, w6⟩ := swept_of_orders (v := tableLost staleNoticeBeforeLoss a.toNat) (u := tableLost staleNotice a.toNat)
    (r := requesterLost a.toNat) (by simp) (by simp) (by simp) a.toNat { s with draws := s.draws + 1 }
  refine announceLost_induct (P := fun t => LostOutcome a s t ∧ Swept a.toNat s t) a.toNat
    ⟨⟨?_, w1⟩, ⟨?_, w2⟩, ⟨?_, w3⟩, ⟨?_, w4⟩, ⟨?_, w5⟩, ⟨?_, w6⟩⟩
  · exact lostOutcome_table_requester active lost small start swept
  · exact (lostOutcome_table_requester active lost small start none).congr (swept _)
  · exact lostOutcome_table_requester active lost small (start.trans (swept _)) none
  · exact lostOutcome_requester_table active lost small (start.trans (swept _)) none
  · exact (lostOutcome_requester_table active lost small start none).congr (swept _)
  · exact lostOutcome_requester_table active lost small start swept

/-- The value table as T, the station and the requester as they were. -/
structure OnlyTable (s : State) (T : Map Entry) (t : State) : Prop where
  station : t.station = s.station
  table : t.table = T
  requester : t.requester = s.requester

/-- The loss at a station that is not ACTIVE: the requester keeps what it holds (R133). -/
theorem announceLost_of_not_active (inactive : s.isActive = false) :
    ∃ t, (OnlyTable s (staleTable a s.table) t ∧ Swept a.toNat s t) ∧ announceLost a.toNat s = forgetAsserter a.toNat t := by
  have still {T : Map Entry} {t : State} (h : OnlyTable s T t) : t.isActive = false := by rwa [State.isActive, h.station]
  have table (notice : State → Nat → State) {t : State} (h : OnlyTable s s.table t) : OnlyTable s (staleTable a s.table) (tableLost notice a.toNat t) := by
    have : tableLost notice a.toNat t = staleAll a.toNat t := if_neg (by simp [still h])
    rw [this]
    exact ⟨h.station, congrArg (staleTable a) h.table, h.requester⟩
  have requester {T : Map Entry} {t : State} (h : OnlyTable s T t) : OnlyTable s T (requesterLost a.toNat t) := by
    have : requesterLost a.toNat t = t := if_neg (by simp [still h])
    rwa [this]
  have sweep {T : Map Entry} {t : State} (h : OnlyTable s T t) : OnlyTable s T (sweepLost a.toNat t) := by
    have same := sameParts_sweepLost a.toNat t
    exact ⟨same.station.trans h.station, same.table.trans h.table, same.requester.trans h.requester⟩
  have start : OnlyTable s s.table { s with draws := s.draws + 1 } := ⟨rfl, rfl, rfl⟩
  obtain ⟨w1, w2, w3, w4, w5, w6⟩ := swept_of_orders (v := tableLost staleNoticeBeforeLoss a.toNat) (u := tableLost staleNotice a.toNat)
    (r := requesterLost a.toNat) (by simp) (by simp) (by simp) a.toNat { s with draws := s.draws + 1 }
  exact announceLost_induct (P := fun t => OnlyTable s (staleTable a s.table) t ∧ Swept a.toNat s t) a.toNat
    ⟨⟨requester (sweep (table _ start)), w1⟩, ⟨sweep (requester (table _ start)), w2⟩, ⟨requester (table _ (sweep start)), w3⟩,
      ⟨table _ (requester (sweep start)), w4⟩, ⟨sweep (table _ (requester start)), w5⟩, ⟨table _ (sweep (requester start)), w6⟩⟩

theorem forgotten_asserter (a : Nat) (s : State) : ∀ g ∈ (forgetAsserter a s).alerts.groups, g.asserters.find a = none := by
  intro g hg
  obtain ⟨g', -, rfl⟩ := List.mem_map.mp hg
  exact (Map.find_erase ..).trans (if_pos rfl)

end

/-- Settles O38. -/
theorem lostPeerLeavesEveryBlock : Obligations.LostPeerLeavesEveryBlock := by
  intro s a p hw hp hg small lost stale givenUp
  let slot : State := { s with roster := { s.roster with peers := s.roster.peers.set a.toNat lost } }
  have run : exec (.lostTimerExpiry a) s = .next (announceLost a.toNat slot) := by
    refine congrArg Host.Outcome.next ?_
    simp only [lostExpiry, hp, hg, hw]
    rfl
  have held : holdsLost slot a.toNat = true := by simp [holdsLost, slot, lost]
  obtain ⟨hst, hti, htr, hca, hco, hro, hqu, hcn, hpe⟩ := announceLost_frame a.toNat slot
  have gives (hm : s.station.mode = .active) (k : Nat) : GivesUp a slot k ↔ givenUp k := by
    rw [GivesUp, mem_lostKeys]
    constructor
    · rintro ⟨hk, (hc | hc) | ⟨⟨-, ho, he⟩, hf⟩⟩
      · exact ⟨hm, hk, .inl hc⟩
      · exact ⟨hm, hk, .inr (.inl hc)⟩
      · exact ⟨hm, hk, .inr (.inr ⟨ho, hf, he⟩)⟩
    · rintro ⟨-, hk, hc | hc | ⟨ho, hf, he⟩⟩
      · exact ⟨hk, .inl (.inl hc)⟩
      · exact ⟨hk, .inl (.inr hc)⟩
      · exact ⟨hk, .inr ⟨⟨hk, ho, he⟩, hf⟩⟩
  refine ⟨_, run, hro, ?_⟩
  by_cases hm : s.station.mode = .active
  · obtain ⟨t, ⟨o, w⟩, e⟩ := announceLost_of_active (s := slot) (a := a) (by simpa [State.isActive] using hm) held small
    obtain ⟨-, -, -, -, -, sw, ta, -, re, -⟩ := forgetAsserter_frame a.toNat t
    rw [e] at hst hti htr hca hco hqu hcn hpe ⊢
    refine ⟨fun k => ?_, fun k => ?_, ?_, fun _ => ⟨?_, ?_⟩, fun h => absurd hm h, forgotten_asserter _ _, hst, hti, htr, hca, hco, ?_, hqu, hcn, hpe⟩
    · rw [ta, ← gives hm]
      exact o.table k
    · rw [re, ← gives hm]
      exact o.holdOffs k
    · rw [sw]
      exact w.2
    · rw [re]
      exact fun x hx hxe => by
        have := mem_askedOf.mpr ⟨x, hx, hxe, rfl⟩
        simp [o.asked] at this
    · rw [re]
      exact o.wanted
    · rw [sw]
      exact w.1
  · have none (k : Nat) : ¬ givenUp k := fun h => hm h.1
    obtain ⟨t, ⟨o, w⟩, e⟩ := announceLost_of_not_active (s := slot) (a := a) (by simpa [State.isActive] using hm)
    obtain ⟨-, -, -, -, -, sw, ta, -, re, -⟩ := forgetAsserter_frame a.toNat t
    rw [e] at hst hti htr hca hco hqu hcn hpe ⊢
    refine ⟨fun k => ⟨fun h => absurd h (none k), fun _ => ?_⟩, fun k => ⟨fun h => absurd h (none k), fun _ => ?_⟩, ?_, fun h => absurd h hm,
      fun _ => re.trans o.requester, forgotten_asserter _ _, hst, hti, htr, hca, hco, ?_, hqu, hcn, hpe⟩
    · rw [ta, o.table]
      exact find_staleTable ..
    · rw [re, o.requester]
    · rw [sw]
      exact w.2
    · rw [sw]
      exact w.1

end Sys2Proof.Machine
end
